-- ==== Sys2Proof/Word.lean ====
section
/-! DEFINITION. The plain words of the part: bytes of a frame, and line positions and timestamps taken modulo 2^32
(00_scope.md section 0.3.2). -/

namespace Sys2Proof

/-- One byte of a cycle frame (R201). -/
abbrev Byte := BitVec 8

/-- A line position, at the knife or on the belt: 32 bits, modulo 2^32 (section 0.3.2). -/
abbrev Position := BitVec 32

/-- A master timestamp in µs: 32 bits, modulo 2^32 (section 0.3.2). -/
abbrev Timestamp := BitVec 32

/-- One level or logical value per field line, line `n` at bit `n` (section 2.6). -/
abbrev Lines := BitVec 32

/-- A set drawn from the forty notice indices, index `n` at bit `n` (R188, R191, R197). -/
abbrev NoticeSet := BitVec 40

end Sys2Proof
end

