-- ==== Sys2Proof/Syntax.lean ====
section
/-! DEFINITION. The commands of the part: one constructor of `Instr` for each row of spec/opcode_table.json, with the
operands the row's rule gives it. Enumerated operands of a service request are the bytes a payload carries (R197), so
that an operand out of range can be written down and refused. -/

namespace Sys2Proof

/-- A cycle frame, field by field in the layout of R201. The slot area stands between header and service area. -/
structure Frame where
  kind : Byte
  flags : Byte
  cycle : BitVec 16
  timestamp : Timestamp
  slotLength : BitVec 16
  slots : List Byte
  target : Byte
  code : Byte
  tag : BitVec 16
  payloadLength : Byte
  payload : Vector Byte 192
  replyStatus : Byte
  tagEcho : BitVec 16
  replyLength : Byte
  replyPayload : Vector Byte 192
  crc : BitVec 32
  deriving DecidableEq, Repr

/-- The reception of one frame: the frame itself, the electrical levels at the pins of the 32 field lines as it is
received (high is 1), and the µs by which the part's free-running timer (R6) has run on since the last command. -/
structure Reception where
  frame : Frame
  pins : Lines
  elapsed : Nat
  deriving DecidableEq, Repr

/-- An operand that may be absent (R197): a presence byte 0 or 1 before its bytes. Any other presence byte is
`malformed`. -/
inductive OptArg where
  | absent
  | present (value : Nat)
  | malformed (presence : Nat)
  deriving DecidableEq, Repr

/-- The base and limit offsets of WRITE_WINDOW, or the word absent (R11). -/
inductive WindowArg where
  | absent
  | present (base limit : Nat)
  | malformed (presence : Nat)
  deriving DecidableEq, Repr

/-- The fields of a conversion entry as WRITE_CONVERSION carries them (R20, section 2.2). -/
structure ConversionArgs where
  enabled : Nat
  source : Nat
  slotOffset : Nat
  validity : OptArg
  group : Nat
  firstLine : Nat
  bitOffset : Nat
  width : Nat
  signed : Nat
  gray : Nat
  numerator : Nat
  denominator : Nat
  offset : Int
  maxChange : Nat
  staleLimit : Nat
  deriving DecidableEq, Repr

/-- One line's setup as WRITE_LINE_SETUP carries it (R37). -/
structure LineArgs where
  polarity : Nat
  mode : Nat
  function : Nat
  deriving DecidableEq, Repr

/-- One group's setup as WRITE_LINE_SETUP carries it (R37). -/
structure GroupArgs where
  lock : Nat
  inhibit : OptArg
  lines : Vector LineArgs 8
  deriving DecidableEq, Repr

/-- One group of folds of a pattern (section 3.2). -/
structure FoldGroup where
  flatLead : Nat
  kind : Nat
  count : Nat
  pitch : Nat
  startDepth : Nat
  endDepth : Nat
  deriving DecidableEq, Repr

/-- The pattern record as WRITE_PATTERN carries it (R48); a maximum dwell of 0 means absent (R197). -/
structure PatternArgs where
  leadIn : Nat
  leadOut : Nat
  minDwell : Nat
  maxDwell : Nat
  tolerance : Nat
  lotClass : Nat
  groups : List FoldGroup
  deriving DecidableEq, Repr

/-- The ten items of the line geometry, in table order (section 6.3, R109). -/
structure Geometry where
  entry : Nat
  exit : Nat
  cut : Nat
  paster : Nat
  window : Nat
  cutWindow : Nat
  minGap : Nat
  spliceMargin : Nat
  coreReserve : Nat
  spliceLength : Nat
  deriving DecidableEq, Repr, Inhabited

/-- The ten speed settings, in table order (section 7.2, R130). -/
structure SpeedSettings where
  vMax : Nat
  vInMax : Nat
  aUp : Nat
  aDown : Nat
  aHalt : Nat
  spliceLimit : Nat
  degradeLimit : Nat
  dancerSet : Nat
  kp : Nat
  trimLimit : Nat
  deriving DecidableEq, Repr

/-- The fields of a zone as WRITE_ZONE carries them (section 8.1, R141). -/
structure ZoneArgs where
  role : OptArg
  spanStart : OptArg
  spanEnd : OptArg
  setPoint : Nat
  bandLow : Nat
  bandHigh : Nat
  hysteresis : Nat
  settleCount : Nat
  kp : Nat
  ki : Nat
  bias : Nat
  fallback : Nat
  deriving DecidableEq, Repr

/-- The commands of the BP-624: the operations and events of spec/opcode_table.json, in its order. A service request
is the request as its owner takes it; an event that a frame brings about carries the reception that brings it about. -/
inductive Instr where
  | powerOn (straps : BitVec 4)
  | cycleFrame (rx : Reception)
  | syncComplete (rx : Reception)
  | badFrameRunFault (rx : Reception)
  | silenceTimeout
  | faultRecovery (rx : Reception)
  | quantityStale (q : Fin 16) (rx : Reception)
  | foldCompletion
  | zoneSettled (z : Fin 6) (rx : Reception)
  | matchComplete (rx : Reception)
  | matchTimeout (rx : Reception)
  | pasteTimeout (rx : Reception)
  | trimAtLimitCount (rx : Reception)
  | goActive
  | goListen
  | resync
  | identify (clear : Nat)
  | writeWindow (direction number : Nat) (bounds : WindowArg)
  | writeCommandMap (field : Nat) (offset : OptArg)
  | setCycle (period slotLength : Nat)
  | writeConversion (quantity : Nat) (args : ConversionArgs)
  | readQuantity (quantity mode : Nat)
  | writeLineSetup (group : Nat) (args : GroupArgs)
  | setLines (pairs : List (Nat × Nat))
  | readLines
  | writeFoldKind (kind multiplier limit actions : Nat)
  | writePattern (number : Nat) (args : PatternArgs)
  | readPattern (number : Nat)
  | deletePattern (number : Nat)
  | appendRun (pattern count lotTag : Nat)
  | cancelRuns
  | readOrders
  | holdPanels
  | releasePanels
  | setOrderLow (threshold : Nat)
  | writeGeometry (items : Geometry)
  | readList (list : Nat)
  | readRecord (index : Nat)
  | collect (expected : OptArg)
  | enterConfig
  | leaveConfig
  | start
  | stop
  | ackHalt
  | setSpeed (speed : Nat)
  | writeSpeedLimits (settings : SpeedSettings)
  | writeZone (zone : Nat) (args : ZoneArgs)
  | zoneEnable (zone switch : Nat)
  | setPressureMin (minimum : Nat)
  | readZones
  | loadRoll (spindle lotTag core thickness threaded : Nat)
  | unloadRoll (spindle : Nat)
  | spliceCancel
  | writeSpliceSettings (tolerance matchTimeout pasteTimeout : Nat)
  | readRolls
  | writeNoticeRoute (index enable cls group : Nat)
  | setReportMask (selection : NoticeSet)
  | clearNotices (selection : NoticeSet)
  | readNotices
  | raiseTest
  | resetRun
  | resetFull
  deriving DecidableEq, Repr

end Sys2Proof
end

