-- ==== Sys2Proof/Machine/Arith.lean ====
section
/-! DEFINITION. The part's arithmetic (00_scope.md sections 0.3.2 and 0.3.3), its byte order, and its CRC-32 (R201). -/

namespace Sys2Proof.Machine

/-- Position `a` has reached position `b` (section 0.3.2). -/
def reached (a b : Position) : Bool := decide ((a - b).toNat < 2 ^ 31)

/-- The sum of a position and a length, modulo 2^32 (section 0.3.2). -/
def beyond (p : Position) (n : Nat) : Position := p + BitVec.ofNat 32 n

/-- The distance from `b` to `a`, modulo 2^32 (section 0.3.2). -/
def distance (a b : Position) : Nat := (a - b).toNat

/-- `a / d` rounded to nearest, ties away from zero (section 0.3.3). -/
def roundNearest (a : Int) (d : Nat) : Int :=
  let q : Nat := (2 * a.natAbs + d) / (2 * d)
  if a < 0 then -(q : Int) else (q : Int)

/-- Clamping of a value to a range `lo..hi` (section 0.3.3). -/
def clampInt (lo hi x : Int) : Int := if x < lo then lo else if hi < x then hi else x

/-- A counter raised by `n`, saturating at `top` (section 0.3.3). -/
def saturate (top count n : Nat) : Nat := min (count + n) top

/-- The largest value of a 32-bit counter. -/
def counterMax : Nat := 4294967295

/-- `k n`, with `n` evaluated first: the match makes the kernel form the number before it goes on. -/
def forced {α : Type} (n : Nat) (k : Nat → α) : α :=
  match n with
  | 0 => k 0
  | m + 1 => k (m + 1)

/-- One bit of the reflected CRC register with generator 04C11DB7 (R201). -/
def crcBit (c : Nat) : Nat := if c % 2 = 1 then (c >>> 1) ^^^ 0xEDB88320 else c >>> 1

/-- One byte taken into the CRC register, least significant bit first (R201). -/
def crcByte (c : Nat) (b : Byte) : Nat :=
  crcBit (crcBit (crcBit (crcBit (crcBit (crcBit (crcBit (crcBit (c ^^^ b.toNat))))))))

/-- The CRC register after a run of bytes. -/
def crcRegister : Nat → List Byte → Nat
  | c, [] => c
  | c, b :: bs => forced (crcByte c b) (fun c' => crcRegister c' bs)

/-- The CRC-32 of a run of bytes: start of all ones, final complement (R201). -/
def crc32 (bytes : List Byte) : BitVec 32 := BitVec.ofNat 32 (crcRegister 0xFFFFFFFF bytes ^^^ 0xFFFFFFFF)

/-- The number `v` in `n` bytes, least significant byte first (R197). -/
def leBytes : Nat → Nat → List Byte
  | 0, _ => []
  | n + 1, v => BitVec.ofNat 8 v :: leBytes n (v / 256)

/-- The number a run of bytes holds, least significant byte first (R197, R21). -/
def leValue : List Byte → Nat
  | [] => 0
  | b :: bs => b.toNat + 256 * leValue bs

/-- `n` bytes of `bytes` from offset `at`. -/
def slice (bytes : List Byte) (offset n : Nat) : List Byte := (bytes.drop offset).take n

/-- The number held in `n` bytes at an offset. -/
def readLe (bytes : List Byte) (offset n : Nat) : Nat := leValue (slice bytes offset n)

/-- A bit as a number. -/
def bit (b : Bool) : Nat := if b then 1 else 0

/-- The digits of a Gray count below digit `n`, given the binary digit just above them (R23): a binary digit is 1 when
the one above it differs from the Gray digit in its own place. -/
def grayDigits (gray : Nat) : Nat → Bool → Nat
  | 0, _ => 0
  | n + 1, above =>
    let digit := xor above (gray.testBit n)
    (if digit then 2 ^ n else 0) + grayDigits gray n digit

/-- Gray decoding of a count of `width` digits (R23). -/
def grayDecode (width gray : Nat) : Nat := grayDigits gray width false

/-- A count of `width` digits read as two's complement (R23). -/
def signedRead (width count : Nat) : Int :=
  if 2 ^ (width - 1) ≤ count then (count : Int) - 2 ^ width else count

/-- Bytes `new` written over `bytes` from offset `at`; bytes past the end are not written. -/
def overwrite (bytes : List Byte) (offset : Nat) (new : List Byte) : List Byte :=
  if offset + new.length ≤ bytes.length then bytes.take offset ++ new ++ bytes.drop (offset + new.length) else bytes

/-- The first `n` bytes of `bytes`, filled up with zeroes. -/
def padded (n : Nat) (bytes : List Byte) : Vector Byte n := Vector.ofFn (fun i => bytes.getD i.val 0)

/-- The bytes of a frame before its trailer, in the layout of R201. -/
def frameBytes (f : Frame) : List Byte :=
  [f.kind, f.flags] ++ leBytes 2 f.cycle.toNat ++ leBytes 4 f.timestamp.toNat ++ leBytes 2 f.slotLength.toNat
    ++ f.slots
    ++ [f.target, f.code] ++ leBytes 2 f.tag.toNat ++ [f.payloadLength] ++ f.payload.toList
    ++ [f.replyStatus] ++ leBytes 2 f.tagEcho.toNat ++ [f.replyLength] ++ f.replyPayload.toList

/-- The trailer of a frame: the CRC-32, least significant byte first (R201). -/
def trailerBytes (f : Frame) : List Byte := leBytes 4 f.crc.toNat

/-- A frame as it stands on the ring, first byte first: header, slot area, service area and trailer (R201). The service
area begins at 10 + slot area length and the trailer 393 bytes on, for a frame whose slot area has that length. -/
def wireBytes (f : Frame) : List Byte := frameBytes f ++ trailerBytes f

/-- The CRC-32 a frame's content calls for (R201). -/
def frameCrc (f : Frame) : BitVec 32 := crc32 (frameBytes f)

/-- The frame with its trailer recomputed (R1, R201). -/
def withFreshCrc (f : Frame) : Frame := { f with crc := frameCrc f }

/-- Whether a frame carries the DAMAGED flag: flags bit 0 (R201). -/
def isDamaged (f : Frame) : Bool := f.flags.getLsbD 0

/-- The frame with DAMAGED set and its trailer recomputed (R5, R201). -/
def withDamaged (f : Frame) : Frame := withFreshCrc { f with flags := f.flags ||| 1 }

end Sys2Proof.Machine
end

