-- ==== Sys2Proof/Config.lean ====
section
/-! DEFINITION. What the spec leaves open: the one free value of the model. -/

namespace Sys2Proof

/-- FREE VALUE (log entry 1). The ten geometry items a block's work would read while the line geometry is absent. The
spec states no value there; the one reachable read is of the core reserve, in the budget of R165, when a roll is loaded
before WRITE_GEOMETRY has been accepted. The argument is the model's own counter `State.freeIndex`. -/
opaque Config.unsetGeometry : Nat → Geometry

end Sys2Proof
end

