-- ==== Sys2Proof/Machine/State.lean ====
section
/-! DEFINITION. The state of the part as plain data, block by block as 00_scope.md section 0.2.1 gives them, with its
state at power-on (`State.reset`), and the reasons a step can stop. -/

namespace Sys2Proof.Machine

/-! ### The ring port (01_the_ring_port.md) -/

/-- Port states (section 1.4). -/
inductive PortState where
  | offline | syncing | listen | active | fault
  deriving DecidableEq, Repr

/-- Last error codes (section 1.3). -/
inductive ErrorCode where
  | none | crc | format | length | sequence | late | silence
  deriving DecidableEq, Repr

/-- A present window: base and limit offsets, both inclusive (section 1.5). -/
structure Window where
  base : Nat
  limit : Nat
  deriving DecidableEq, Repr

/-- What the ring port owns (R18). -/
structure RingPort where
  state : PortState
  address : BitVec 4
  readWindows : Vector (Option Window) 4
  writeWindows : Vector (Option Window) 4
  /-- Offsets of the nine command fields, in the table order of section 1.5. -/
  map : Vector (Option Nat) 9
  period : Nat
  slotLength : Option Nat
  badFrames : Nat
  missedCycles : Nat
  lastError : ErrorCode
  /-- Cycle number and timestamp of the previous good frame (R4). -/
  previous : Option (BitVec 16 × Timestamp)
  syncCount : Nat
  runCount : Nat
  recoveryCount : Nat
  /-- Timer reading of the silence deadline while it runs (R6). -/
  deadline : Option Nat
  deriving DecidableEq, Repr

/-! ### Quantities and field lines (02_quantities_and_field_lines.md) -/

/-- Source kinds of a conversion entry (section 2.2). -/
inductive SourceKind where
  | frame | lines
  deriving DecidableEq, Repr

/-- A conversion entry (section 2.2). -/
structure ConversionEntry where
  enabled : Bool
  source : SourceKind
  slotOffset : Nat
  validity : Option Nat
  group : Nat
  firstLine : Nat
  bitOffset : Nat
  width : Nat
  signed : Bool
  gray : Bool
  numerator : Nat
  denominator : Nat
  offset : Int
  maxChange : Nat
  staleLimit : Nat
  deriving DecidableEq, Repr

/-- One of the sixteen quantities (R19). -/
structure Quantity where
  value : BitVec 32
  lost : Bool
  fresh : Bool
  age : Nat
  remainder : Nat
  lastRaw : Option Nat
  deriving DecidableEq, Repr

/-- What the sample converter owns (R30). -/
structure Converter where
  entries : Vector ConversionEntry 16
  quantities : Vector Quantity 16
  deriving DecidableEq, Repr

/-- Read modes of a line (R33). -/
inductive ReadMode where
  | live | latched | grayLatched
  deriving DecidableEq, Repr

/-- Functions of a line (section 2.6). -/
inductive LineFunction where
  | none | readyA | readyB | pasterConfirm | tunnelDoor
  | lineRun | lineHalted | wasteGate | spliceActive
  | noticeGroup0 | noticeGroup1 | noticeGroup2 | noticeGroup3 | manual
  deriving DecidableEq, Repr

/-- One field line's setup and manual value (section 2.6). -/
structure LineSetup where
  inverting : Bool
  mode : ReadMode
  function : LineFunction
  manual : Bool
  deriving DecidableEq, Repr

/-- One group's lock, inhibit line and latch-held flag (section 2.6). -/
structure GroupSetup where
  locked : Bool
  inhibit : Option (Fin 32)
  held : Bool
  deriving DecidableEq, Repr

/-- The door reading kept from the previous arrival (R35): whether TUNNEL_DOOR read active, and whether the line was
in RUN or STOPPING at that door test. -/
structure DoorReading where
  closed : Bool
  running : Bool
  deriving DecidableEq, Repr

/-- What the field line block owns (R41), with the levels at the pins as last seen. -/
structure FieldLines where
  groups : Vector GroupSetup 4
  lines : Vector LineSetup 32
  latch : Lines
  door : Option DoorReading
  pins : Lines
  deriving DecidableEq, Repr

/-! ### Patterns (03_patterns_and_fold_kinds.md) -/

/-- A set of knife actions (R42). -/
structure ActionSet where
  knife : Bool
  tuck : Bool
  reverse : Bool
  mark : Bool
  deriving DecidableEq, Repr

/-- A fold kind entry (section 3.1). -/
structure FoldKind where
  multiplier : Nat
  limit : Nat
  actions : ActionSet
  deriving DecidableEq, Repr

/-- The totals of a pattern (R46). -/
structure Totals where
  input : Nat
  output : Nat
  folds : Nat
  maxRatio : Nat
  deriving DecidableEq, Repr

/-- A present pattern: record, totals and CLAMPED attribute (R45). -/
structure Pattern where
  leadIn : Nat
  leadOut : Nat
  groups : List FoldGroup
  minDwell : Nat
  maxDwell : Option Nat
  tolerance : Nat
  lotClass : Nat
  totals : Totals
  clamped : Bool
  deriving DecidableEq, Repr

/-- What the pattern store owns (R55). Place `n` of 1..48 stands at index `n - 1`. -/
structure PatternStore where
  kinds : Vector FoldKind 16
  places : Vector (Option Pattern) 48
  deriving DecidableEq, Repr

/-! ### The fold calculator (04_fold_calculation_and_stroke_emission.md) -/

/-- A fold request (R64): panel serial, entry number and the carried fold kind contents. An abandoned request (R66,
R67) no longer counts as in flight; it stands here until its completion comes and is discarded. -/
structure FoldRequest where
  serial : Nat
  entry : Nat
  kind : Option FoldKind
  abandoned : Bool
  deriving DecidableEq, Repr

/-- The fields of a FOLD entry only (R57). `multiplier` is the model's own: the one the entry's request carried (R64), kept
for the entry's stroke (R74, log entry 44). -/
structure FoldPart where
  depth : Nat
  multiplier : Nat
  actions : ActionSet
  number : Nat
  deriving DecidableEq, Repr

/-- An entry of the stroke queue (R57); FLAT when `fold` is absent. -/
structure StrokeEntry where
  position : Position
  length : Nat
  ratio : Nat
  fold : Option FoldPart
  serial : Nat
  record : Fin 64
  emitted : Bool
  deriving DecidableEq, Repr

/-- The panel context (R63). -/
structure PanelContext where
  serial : Nat
  record : Fin 64
  pattern : Fin 48
  start : Position
  offset : Nat
  deriving DecidableEq, Repr

/-- A stroke as the STROKES field carries it (R73). -/
structure Stroke where
  position : Position
  depth : Nat
  actions : ActionSet
  fold : Nat
  serial : Nat
  deriving DecidableEq, Repr

/-- What the fold calculator owns (R77), with the strokes selected at the last ACTIVE arrival, entry 0 first; the
entries of STROKES that the list does not fill are empty. -/
structure Calculator where
  requests : List FoldRequest
  queue : List StrokeEntry
  context : Option PanelContext
  ratio : Nat
  strokes : List Stroke
  deriving DecidableEq, Repr

/-! ### The panel sequencer (05_order_runs_and_the_panel_sequencer.md) -/

/-- A run (section 5.1); pattern number `n` is index `n - 1`. -/
structure Run where
  pattern : Fin 48
  count : Nat
  lotTag : Nat
  deriving DecidableEq, Repr

/-- The current run with its remaining count (R78). -/
structure CurrentRun where
  run : Run
  remaining : Nat
  deriving DecidableEq, Repr

/-- Gap reasons (section 5.2). -/
inductive GapReason where
  | stop | drain | heatHold | pool | rollWait | speedWait | hold | restart
  deriving DecidableEq, Repr

/-- What the panel sequencer owns (R101). The sequencer state is the kind of the open record, IDLE when there is none
(R83), and is not stored a second time. -/
structure Sequencer where
  queue : List Run
  current : Option CurrentRun
  lowThreshold : Nat
  openRecord : Option (Fin 64)
  hold : Bool
  serial : Nat
  cursor : Option Nat
  /-- Lot tag and serial of the PANEL opened last (R100). -/
  lastPanel : Option (Nat × Nat)
  deriving DecidableEq, Repr

/-! ### Track records (06_track_records.md) -/

/-- Kinds of a track record (section 6.1). -/
inductive RecordKind where
  | panel | gap | splice
  deriving DecidableEq, Repr

/-- Dispositions (R178). -/
inductive Disposition where
  | good | reject | waste
  deriving DecidableEq, Repr

/-- The marks of a record (section 6.1). -/
structure Marks where
  misfold : Bool
  underset : Bool
  shortDwell : Bool
  overdwell : Bool
  spliced : Bool
  aborted : Bool
  deriving DecidableEq, Repr

/-- The four transit stamps of a record (R155). -/
structure Transits where
  leadEntry : Option Timestamp
  leadExit : Option Timestamp
  trailEntry : Option Timestamp
  trailExit : Option Timestamp
  deriving DecidableEq, Repr

/-- A track record (section 6.1). Its list is the one of the five lists that holds its index (R105). -/
structure TrackRecord where
  kind : Option RecordKind
  isOpen : Bool
  inStart : Option Position
  inLen : Option Nat
  outStart : Option Position
  outLen : Option Nat
  pattern : Option (Fin 48)
  lotTag : Option Nat
  lotClass : Option Nat
  serial : Option Nat
  gapReason : Option GapReason
  newLotTag : Option Nat
  transits : Transits
  offBand : Nat
  marks : Marks
  disposition : Option Disposition
  cutEmitted : Bool
  deriving DecidableEq, Repr

/-- What the track block owns (R118). The head of each list comes first. -/
structure Track where
  records : Vector TrackRecord 64
  free : List (Fin 64)
  runout : List (Fin 64)
  tunnel : List (Fin 64)
  exit : List (Fin 64)
  done : List (Fin 64)
  /-- The records of RUNOUT and TUNNEL that the last re-base of BELT_POS left behind the knife, and that the belt has not
  reached since (R111, log entry 47). -/
  behind : List (Fin 64)
  geometry : Option Geometry
  deriving DecidableEq, Repr

/-! ### Line supervisor and governor (07_line_supervision_and_speed.md) -/

/-- Line states (section 7.1). -/
inductive LineState where
  | configure | stopped | run | stopping | halted
  deriving DecidableEq, Repr

/-- Sources of the target (R131). -/
inductive TargetSource where
  | none | set | dwell | feed | splice | degrade | stop | halt
  deriving DecidableEq, Repr

/-- What the supervisor and governor own (R139). -/
structure Governor where
  line : LineState
  rampStarted : Bool
  vSet : Nat
  settings : SpeedSettings
  command : Nat
  target : Nat
  source : TargetSource
  vIn : Nat
  spindleA : Nat
  spindleB : Nat
  trimCount : Nat
  dwellLimiting : Bool
  feedLimiting : Bool
  deriving DecidableEq, Repr

/-! ### The steam tunnel (08_the_steam_tunnel.md) -/

/-- Zone roles (section 8.1). -/
inductive ZoneRole where
  | preheat | set | dry
  deriving DecidableEq, Repr

/-- Zone states (section 8.2). -/
inductive ZoneState where
  | off | warming | inBand | low | high | lost
  deriving DecidableEq, Repr

/-- The role and span of a fitted zone; the three are present or absent together (R140, R141). -/
structure ZoneFit where
  role : ZoneRole
  spanStart : Nat
  spanEnd : Nat
  deriving DecidableEq, Repr

/-- The settings of a zone that any line state may write (section 8.1). -/
structure ZoneSettings where
  setPoint : Nat
  bandLow : Nat
  bandHigh : Nat
  hysteresis : Nat
  settleCount : Nat
  kp : Nat
  ki : Nat
  bias : Nat
  fallback : Nat
  deriving DecidableEq, Repr

/-- A zone of the zone table with its items of state (R140). -/
structure Zone where
  fit : Option ZoneFit
  settings : ZoneSettings
  state : ZoneState
  progress : Nat
  integrator : Nat
  opening : Nat
  deriving DecidableEq, Repr

/-- What the tunnel controller owns (R159). Zone `n` of 1..6 stands at index `n - 1`. -/
structure Tunnel where
  zones : Vector Zone 6
  pressureMin : Nat
  pressureLow : Bool
  pressureHold : Bool
  doorOpen : Bool
  /-- The model's own: RESET RUN has come since the last ACTIVE arrival (R159, log entry 43). -/
  restarted : Bool
  /-- Exposure residue of each record in TUNNEL, 0..999 µs (R152). -/
  residues : Vector Nat 64
  deriving DecidableEq, Repr

/-! ### Roll change (09_roll_change.md) -/

/-- The two spindles (R160). -/
inductive SpindleName where
  | a | b
  deriving DecidableEq, Repr

/-- Spindle states (section 9.1). -/
inductive SpindleState where
  | empty | loaded | active | expired
  deriving DecidableEq, Repr

/-- A roll on a spindle: lot tag, core diameter and thickness (section 9.1). -/
structure Roll where
  lotTag : Nat
  core : Nat
  thickness : Nat
  deriving DecidableEq, Repr

/-- A spindle record (section 9.1). -/
structure Spindle where
  state : SpindleState
  roll : Option Roll
  remaining : Option Nat
  refLength : Option Nat
  refPosition : Option Position
  /-- Whether the diameter quantity was LOST at the last ACTIVE arrival (R176). -/
  diameterLost : Bool
  deriving DecidableEq, Repr

/-- Splice states (section 9.3). -/
inductive SpliceState where
  | standby | ready | armed | matching | paste | clear | failed
  deriving DecidableEq, Repr

/-- The joint span J0, J1 (R170). -/
structure JointSpan where
  j0 : Position
  j1 : Position
  deriving DecidableEq, Repr

/-- The three splice settings (section 9.4). -/
structure SpliceSettings where
  tolerance : Nat
  matchTimeout : Nat
  pasteTimeout : Nat
  deriving DecidableEq, Repr

/-- What the roll change controller owns (R177). `paste` is the PASTE field: the spindle to be pasted with the command
PASTE, or none with IDLE (R170). -/
structure RollChange where
  spindleA : Spindle
  spindleB : Spindle
  splice : SpliceState
  attempts : Nat
  matchCount : Nat
  budget : Nat
  phase : Option Timestamp
  span : Option JointSpan
  paste : Option SpindleName
  settings : SpliceSettings
  deriving DecidableEq, Repr

/-! ### Take-off (10_take_off.md) -/

/-- A cut entry that is not empty (R183). -/
structure CutEntry where
  position : Position
  record : Fin 64
  disposition : Disposition
  deriving DecidableEq, Repr

/-- What the take-off owns (R186). -/
structure TakeOff where
  gate : Disposition
  cutEntry : Option CutEntry
  deriving DecidableEq, Repr

/-! ### Notices (11_notices.md) -/

/-- The forty notices, in index order (section 11.1). -/
inductive Notice where
  | ringFault | frameError | cycleMissed | positionLost | diameterLost | speedSampleLost | dancerLost | pressureLost
  | tempLost | sampleFiltered | knifeFault | cutterFault | patternClamped | foldLate | orderLow | orderEmpty
  | poolLow | doneHigh | dwellLimiting | feedLimiting | dancerLimit | zoneLow | zoneHigh | steamPressureLow
  | doorOpen | panelUnderset | panelShortDwell | panelOverdwell | rollLow | noReadyRoll | matchFail | spliceFailed
  | pasteFail | emergencySplice | rollRunout | spliceDone | rejectCut | cutLate | lineStopped | test
  deriving DecidableEq, Repr

/-- Classes of a route (R187). -/
inductive NoticeClass where
  | note | degrade | halt
  deriving DecidableEq, Repr

/-- A notice's route (R187). -/
structure Route where
  enabled : Bool
  cls : NoticeClass
  group : Fin 4
  deriving DecidableEq, Repr

/-- What the notice block owns (R196). -/
structure Notices where
  routes : Vector Route 40
  pendingSet : NoticeSet
  mask : NoticeSet
  deriving DecidableEq, Repr

/-! ### The service handler (12_service_requests_and_formats.md) -/

/-- Reply statuses (section 1.6, R198). -/
inductive Status where
  | ok | okClamped | unknown | range | state | inUse | full | empty | absent | isProtected
  deriving DecidableEq, Repr

/-- A reply: its status and its payload as the bytes of the reply length (R198). -/
structure Reply where
  status : Status
  payload : List Byte
  deriving DecidableEq, Repr

/-! ### The whole part -/

/-- Faults of a step. There is NONE: no rule of spec/ stops the part, so no meaning answers one (safe: nothing the
part does is cut short). -/
inductive Fault where
  deriving DecidableEq, Repr

/-- Refusals of a step. No meaning answers one: every row of the table has its effect. -/
inductive Refusal where
  /-- Raised by `exec` for a row that has no meaning yet; safe. No row is left so. -/
  | notModelled (mnemonic : String)
  deriving DecidableEq, Repr

/-- The state of the BP-624: its blocks, and the model's own fields after them. -/
structure State where
  port : RingPort
  converter : Converter
  lines : FieldLines
  store : PatternStore
  folds : Calculator
  seq : Sequencer
  track : Track
  gov : Governor
  tunnel : Tunnel
  roll : RollChange
  takeOff : TakeOff
  notices : Notices
  /-- The part's free-running timer, in µs since power-on (R6). -/
  timer : Nat
  /-- The reply the last command wrote into a reply space, absent when it wrote none (R16). -/
  reply : Option Reply
  /-- The frame last forwarded on the downstream port (R1). -/
  downstream : Option Frame
  /-- The model's own: how many free values have been drawn (log entry 1). -/
  freeIndex : Nat
  /-- The model's own: the commands that are waiting, first in, first out. -/
  pending : List Instr
  deriving DecidableEq, Repr

/-! ### Power-on (R18, R30, R41, R55, R77, R101, R118, R139, R159, R177, R186, R196) -/

/-- A conversion entry at power-on (R30; group and first line: log entry 30). -/
def ConversionEntry.reset : ConversionEntry :=
  { enabled := false, source := .frame, slotOffset := 0, validity := none, group := 0, firstLine := 0, bitOffset := 0,
    width := 1, signed := false, gray := false, numerator := 1, denominator := 1, offset := 0, maxChange := 0,
    staleLimit := 1 }

/-- A quantity at power-on (R30). -/
def Quantity.reset : Quantity :=
  { value := 0, lost := true, fresh := false, age := 0, remainder := 0, lastRaw := none }

/-- The empty action set (R42). -/
def ActionSet.empty : ActionSet := { knife := false, tuck := false, reverse := false, mark := false }

/-- A fold kind 0 or 4..15 at power-on (R42). -/
def FoldKind.spacer : FoldKind := { multiplier := 0, limit := 0, actions := ActionSet.empty }

/-- The fold kind table at power-on (R42). -/
def FoldKind.table : Vector FoldKind 16 :=
  #v[FoldKind.spacer,
     { multiplier := 2, limit := 5000, actions := { ActionSet.empty with knife := true } },
     { multiplier := 4, limit := 5000, actions := { ActionSet.empty with knife := true, tuck := true } },
     { multiplier := 4, limit := 5000, actions := { ActionSet.empty with knife := true, tuck := true, reverse := true } },
     FoldKind.spacer, FoldKind.spacer, FoldKind.spacer, FoldKind.spacer, FoldKind.spacer, FoldKind.spacer,
     FoldKind.spacer, FoldKind.spacer, FoldKind.spacer, FoldKind.spacer, FoldKind.spacer, FoldKind.spacer]

/-- No mark (section 6.1). -/
def Marks.empty : Marks :=
  { misfold := false, underset := false, shortDwell := false, overdwell := false, spliced := false, aborted := false }

/-- No transit stamp (section 6.1). -/
def Transits.none : Transits :=
  { leadEntry := Option.none, leadExit := Option.none, trailEntry := Option.none, trailExit := Option.none }

/-- An unused record (R102). -/
def TrackRecord.unused : TrackRecord :=
  { kind := none, isOpen := false, inStart := none, inLen := none, outStart := none, outLen := none, pattern := none,
    lotTag := none, lotClass := none, serial := none, gapReason := none, newLotTag := none, transits := Transits.none,
    offBand := 0, marks := Marks.empty, disposition := none, cutEmitted := false }

/-- All 64 indices in index order (R118). -/
def Track.allIndices : List (Fin 64) := List.finRange 64

/-- The speed settings at power-on (R139). -/
def SpeedSettings.reset : SpeedSettings :=
  { vMax := 10000, vInMax := 20000, aUp := 100, aDown := 100, aHalt := 1000, spliceLimit := 5000,
    degradeLimit := 5000, dancerSet := 500, kp := 0, trimLimit := 0 }

/-- A zone at power-on (R159). -/
def Zone.reset : Zone :=
  { fit := none
    settings := { setPoint := 0, bandLow := 0, bandHigh := 0, hysteresis := 0, settleCount := 1, kp := 0, ki := 0,
                  bias := 0, fallback := 0 }
    state := .off, progress := 0, integrator := 0, opening := 0 }

/-- An EMPTY spindle (R160, R177). -/
def Spindle.reset : Spindle :=
  { state := .empty, roll := none, remaining := none, refLength := none, refPosition := none, diameterLost := false }

/-- The four fixed notices (R187). -/
def Notice.fixedIndices : List (Fin 40) := [0, 3, 24, 34]

/-- The indices of class HALT at power-on (R187). -/
def Notice.haltIndices : List (Fin 40) := [0, 3, 10, 11, 24, 32, 34]

/-- The indices of class DEGRADE at power-on (R187). -/
def Notice.degradeIndices : List (Fin 40) := [4, 5, 6, 7, 8, 13, 20, 21, 22, 23, 29, 30, 31, 37]

/-- The route of index `n` at power-on (R187); TEST has group 3. -/
def Route.reset (n : Fin 40) : Route :=
  if n ∈ Notice.haltIndices then { enabled := true, cls := .halt, group := 0 }
  else if n ∈ Notice.degradeIndices then { enabled := true, cls := .degrade, group := 1 }
  else { enabled := true, cls := .note, group := if n = 39 then 3 else 2 }

/-- The ring port at power-on (R18). The station address is the straps' (R2). -/
def RingPort.reset (straps : BitVec 4) : RingPort :=
  { state := .offline, address := straps, readWindows := Vector.replicate 4 none,
    writeWindows := Vector.replicate 4 none, map := Vector.replicate 9 none, period := 1000, slotLength := none,
    badFrames := 0, missedCycles := 0, lastError := .none, previous := none, syncCount := 0, runCount := 0,
    recoveryCount := 0, deadline := none }

/-- The sample converter at power-on (R30). -/
def Converter.reset : Converter :=
  { entries := Vector.replicate 16 ConversionEntry.reset, quantities := Vector.replicate 16 Quantity.reset }

/-- The field line block at power-on (R41), with the given pin levels. -/
def FieldLines.reset (pins : Lines) : FieldLines :=
  { groups := Vector.replicate 4 { locked := true, inhibit := none, held := false }
    lines := Vector.replicate 32 { inverting := false, mode := .live, function := .none, manual := false }
    latch := 0, door := none, pins := pins }

/-- The pattern store at power-on (R55). -/
def PatternStore.reset : PatternStore := { kinds := FoldKind.table, places := Vector.replicate 48 none }

/-- The fold calculator at power-on (R77). -/
def Calculator.reset : Calculator := { requests := [], queue := [], context := none, ratio := 4096, strokes := [] }

/-- The panel sequencer at power-on (R101). -/
def Sequencer.reset : Sequencer :=
  { queue := [], current := none, lowThreshold := 2, openRecord := none, hold := false, serial := 0, cursor := none,
    lastPanel := none }

/-- The track block at power-on (R118). -/
def Track.reset : Track :=
  { records := Vector.replicate 64 TrackRecord.unused, free := Track.allIndices, runout := [], tunnel := [],
    exit := [], done := [], behind := [], geometry := none }

/-- The supervisor and governor at power-on (R139). -/
def Governor.reset : Governor :=
  { line := .configure, rampStarted := false, vSet := 0, settings := SpeedSettings.reset, command := 0, target := 0,
    source := .none, vIn := 0, spindleA := 0, spindleB := 0, trimCount := 0, dwellLimiting := false,
    feedLimiting := false }

/-- The tunnel controller at power-on (R159). -/
def Tunnel.reset : Tunnel :=
  { zones := Vector.replicate 6 Zone.reset, pressureMin := 0, pressureLow := false, pressureHold := false,
    doorOpen := false, restarted := false, residues := Vector.replicate 64 0 }

/-- The roll change controller at power-on (R177). -/
def RollChange.reset : RollChange :=
  { spindleA := Spindle.reset, spindleB := Spindle.reset, splice := .standby, attempts := 0, matchCount := 0,
    budget := 0, phase := none, span := none, paste := none
    settings := { tolerance := 200, matchTimeout := 8000, pasteTimeout := 3000 } }

/-- The take-off at power-on (R186). -/
def TakeOff.reset : TakeOff := { gate := .good, cutEntry := none }

/-- The notice block at power-on (R196). -/
def Notices.reset : Notices := { routes := Vector.ofFn Route.reset, pendingSet := 0, mask := BitVec.allOnes 40 }

/-- The part right after power-on with its straps low (log entry 2: straps, pin levels and timer reading at power-on are
outside the spec; DESIGN CHOICE 0). -/
def State.reset : State :=
  { port := RingPort.reset 0, converter := Converter.reset, lines := FieldLines.reset 0, store := PatternStore.reset,
    folds := Calculator.reset, seq := Sequencer.reset, track := Track.reset, gov := Governor.reset,
    tunnel := Tunnel.reset, roll := RollChange.reset, takeOff := TakeOff.reset, notices := Notices.reset,
    timer := 0, reply := none, downstream := none, freeIndex := 0, pending := [] }

/-! ### Block updates: what each writes and leaves is said once in Laws/State.lean -/

/-- The state with another ring port. -/
def State.withPort (s : State) (x : RingPort) : State := { s with port := x }
/-- The state with another sample converter. -/
def State.withConverter (s : State) (x : Converter) : State := { s with converter := x }
/-- The state with another field line block. -/
def State.withLines (s : State) (x : FieldLines) : State := { s with lines := x }
/-- The state with another pattern store. -/
def State.withStore (s : State) (x : PatternStore) : State := { s with store := x }
/-- The state with another fold calculator. -/
def State.withFolds (s : State) (x : Calculator) : State := { s with folds := x }
/-- The state with another panel sequencer. -/
def State.withSeq (s : State) (x : Sequencer) : State := { s with seq := x }
/-- The state with another track block. -/
def State.withTrack (s : State) (x : Track) : State := { s with track := x }
/-- The state with another supervisor and governor. -/
def State.withGov (s : State) (x : Governor) : State := { s with gov := x }
/-- The state with another tunnel controller. -/
def State.withTunnel (s : State) (x : Tunnel) : State := { s with tunnel := x }
/-- The state with another roll change controller. -/
def State.withRoll (s : State) (x : RollChange) : State := { s with roll := x }
/-- The state with another take-off. -/
def State.withTakeOff (s : State) (x : TakeOff) : State := { s with takeOff := x }
/-- The state with another notice block. -/
def State.withNotices (s : State) (x : Notices) : State := { s with notices := x }
/-- The state with another timer reading. -/
def State.withTimer (s : State) (x : Nat) : State := { s with timer := x }
/-- The state with another reply. -/
def State.withReply (s : State) (x : Option Reply) : State := { s with reply := x }
/-- The state with another forwarded frame. -/
def State.withDownstream (s : State) (x : Option Frame) : State := { s with downstream := x }
/-- The state with another free-value counter. -/
def State.withFreeIndex (s : State) (x : Nat) : State := { s with freeIndex := x }
/-- The state with another queue of commands. -/
def State.withPending (s : State) (x : List Instr) : State := { s with pending := x }

end Sys2Proof.Machine
end

