-- ==== Sys2Proof/Machine/Operands.lean ====
section
/-! DEFINITION. The encodings of operands, replies and command fields (R197, R198, R202 to R204): enumerations and
their numbers, optional operands, and the refused replies. -/

namespace Sys2Proof.Machine

/-! ### Enumerations, numbered from 0 in the order their rules list the values (R197) -/

/-- A value listed first or second: `true` for 0, `false` for 1, absent for any other number. -/
def firstOfTwo : Nat → Option Bool
  | 0 => some true
  | 1 => some false
  | _ => none

/-- A flag stated as 0 or 1 (R17, R161): its value, absent for any other number. -/
def zeroOne : Nat → Option Bool
  | 0 => some false
  | 1 => some true
  | _ => none

/-- The number of a value listed first (`true`) or second. -/
def firstOfTwoCode (b : Bool) : Nat := if b then 0 else 1

/-- Source kinds: FRAME, LINES (section 2.2). -/
def sourceOf : Nat → Option SourceKind
  | 0 => some .frame
  | 1 => some .lines
  | _ => none

/-- Read modes: LIVE, LATCHED, GRAY_LATCHED (section 2.6). -/
def modeOf : Nat → Option ReadMode
  | 0 => some .live
  | 1 => some .latched
  | 2 => some .grayLatched
  | _ => none

/-- Line functions in the order of section 2.6. -/
def functionOf : Nat → Option LineFunction
  | 0 => some .none | 1 => some .readyA | 2 => some .readyB | 3 => some .pasterConfirm | 4 => some .tunnelDoor
  | 5 => some .lineRun | 6 => some .lineHalted | 7 => some .wasteGate | 8 => some .spliceActive
  | 9 => some .noticeGroup0 | 10 => some .noticeGroup1 | 11 => some .noticeGroup2 | 12 => some .noticeGroup3
  | 13 => some .manual
  | _ => none

/-- The number of a line function. -/
def functionCode : LineFunction → Nat
  | .none => 0 | .readyA => 1 | .readyB => 2 | .pasterConfirm => 3 | .tunnelDoor => 4
  | .lineRun => 5 | .lineHalted => 6 | .wasteGate => 7 | .spliceActive => 8
  | .noticeGroup0 => 9 | .noticeGroup1 => 10 | .noticeGroup2 => 11 | .noticeGroup3 => 12 | .manual => 13

/-- Zone roles: PREHEAT, SET, DRY (section 8.1). -/
def roleOf : Nat → Option ZoneRole
  | 0 => some .preheat
  | 1 => some .set
  | 2 => some .dry
  | _ => none

/-- The number of a zone role. -/
def roleCode : ZoneRole → Nat
  | .preheat => 0 | .set => 1 | .dry => 2

/-- Zone states in the order of R140. -/
def zoneStateCode : ZoneState → Nat
  | .off => 0 | .warming => 1 | .inBand => 2 | .low => 3 | .high => 4 | .lost => 5

/-- Spindles: A, B (R197). -/
def spindleOf : Nat → Option SpindleName
  | 0 => some .a
  | 1 => some .b
  | _ => none

/-- Spindle states in the order of section 9.1. -/
def spindleStateCode : SpindleState → Nat
  | .empty => 0 | .loaded => 1 | .active => 2 | .expired => 3

/-- Notice classes: NOTE, DEGRADE, HALT (R187). -/
def classOf : Nat → Option NoticeClass
  | 0 => some .note
  | 1 => some .degrade
  | 2 => some .halt
  | _ => none

/-- The number of a notice class. -/
def classCode : NoticeClass → Nat
  | .note => 0 | .degrade => 1 | .halt => 2

/-- Line states in the status record (R203). -/
def lineStateCode : LineState → Nat
  | .configure => 0 | .stopped => 1 | .run => 2 | .stopping => 3 | .halted => 4

/-- Gap reasons in the status record; 0 is absent (R203). -/
def gapReasonCode : Option GapReason → Nat
  | none => 0
  | some .stop => 1 | some .drain => 2 | some .heatHold => 3 | some .pool => 4 | some .rollWait => 5
  | some .speedWait => 6 | some .hold => 7 | some .restart => 8

/-- Splice states in the status record (R203). -/
def spliceStateCode : SpliceState → Nat
  | .standby => 0 | .ready => 1 | .armed => 2 | .matching => 3 | .paste => 4 | .clear => 5 | .failed => 6

/-- Target sources in the status record (R203). -/
def sourceCode : TargetSource → Nat
  | .none => 0 | .set => 1 | .dwell => 2 | .feed => 3 | .splice => 4 | .degrade => 5 | .stop => 6 | .halt => 7

/-- Last error codes (R203). -/
def errorCode : ErrorCode → Nat
  | .none => 0 | .crc => 1 | .format => 2 | .length => 3 | .sequence => 4 | .late => 5 | .silence => 6

/-- Kinds of an open or stored record: 0 for none, 1 PANEL, 2 GAP, 3 SPLICE (R203, R204). -/
def kindCode : Option RecordKind → Nat
  | none => 0
  | some .panel => 1 | some .gap => 2 | some .splice => 3

/-- Dispositions: 0 for none, 1 GOOD, 2 REJECT, 3 WASTE (R202, R204). -/
def dispositionCode : Option Disposition → Nat
  | none => 0
  | some .good => 1 | some .reject => 2 | some .waste => 3

/-- Reply statuses (R198). -/
def statusCode : Status → Nat
  | .ok => 0 | .okClamped => 1 | .unknown => 2 | .range => 3 | .state => 4 | .inUse => 5 | .full => 6 | .empty => 7
  | .absent => 8 | .isProtected => 9

/-- An action set from its byte: KNIFE bit 0, TUCK bit 1, REVERSE bit 2, MARK bit 3; absent when the byte names an
action outside the four (R197, R43). -/
def actionsOf (n : Nat) : Option ActionSet :=
  if n < 16 then
    some { knife := n.testBit 0, tuck := n.testBit 1, reverse := n.testBit 2, mark := n.testBit 3 }
  else none

/-- The byte of an action set (R197). -/
def actionsCode (a : ActionSet) : Nat := bit a.knife + 2 * bit a.tuck + 4 * bit a.reverse + 8 * bit a.mark

/-- The byte of a record's marks (R204). -/
def marksCode (m : Marks) : Nat :=
  bit m.misfold + 2 * bit m.underset + 4 * bit m.shortDwell + 8 * bit m.overdwell + 16 * bit m.spliced + 32 * bit m.aborted

/-! ### Numbered objects -/

/-- A number below `k` as an index. -/
def index? (k n : Nat) : Option (Fin k) := if h : n < k then some ⟨n, h⟩ else none

/-- A number of `1..k` as an index. -/
def ordinal? (k n : Nat) : Option (Fin k) := if h : n - 1 < k ∧ 0 < n then some ⟨n - 1, h.1⟩ else none

/-! ### Ranges -/

/-- The value lies in `lo..hi`. -/
def within (lo hi n : Nat) : Bool := decide (lo ≤ n) && decide (n ≤ hi)

/-- An optional operand: absent, or present in `lo..hi`. Any other presence byte is out of range (log entry 5). -/
def optWithin (lo hi : Nat) : OptArg → Bool
  | .absent => true
  | .present n => within lo hi n
  | .malformed _ => false

/-- The value of an optional operand. -/
def optValue : OptArg → Option Nat
  | .present n => some n
  | _ => none

/-- The position, from 1, of the first check that fails. -/
def firstFailing : List Bool → Option Nat
  | [] => none
  | true :: rest => (firstFailing rest).map (· + 1)
  | false :: _ => some 1

/-! ### Replies -/

/-- An OK reply with its payload. -/
def okay (payload : List Byte) : Reply := { status := .ok, payload := payload }

/-- A refused reply: reply length 4, the violation and its items (R198). -/
def refusal (st : Status) (violation : Nat := 0) (a : Nat := 0) (b : Nat := 0) : Reply :=
  { status := st, payload := leBytes 1 violation ++ leBytes 1 a ++ leBytes 1 b ++ leBytes 1 0 }

/-- A flag in a reply: 1 when it holds (log entry 6). -/
def flagByte (b : Bool) : List Byte := leBytes 1 (bit b)

/-- A logical value in a reply, ACTIVE 0 and INACTIVE 1 as SET_LINES writes them (R197; log entry 6). -/
def activeByte (b : Bool) : List Byte := leBytes 1 (firstOfTwoCode b)

/-- A value of `n` bytes that may be absent: its presence byte, then the value or zeroes (R197). -/
def optBytes (n : Nat) : Option Nat → List Byte
  | none => leBytes 1 0 ++ leBytes n 0
  | some v => leBytes 1 1 ++ leBytes n v

/-- A set of notice indices in 5 bytes (R197). -/
def noticeSetBytes (x : NoticeSet) : List Byte := leBytes 5 x.toNat

/-- A request that refuses changes no state (R16). -/
def refuse (s : State) (st : Status) (violation : Nat := 0) (a : Nat := 0) (b : Nat := 0) : State × Reply :=
  (s, refusal st violation a b)

end Sys2Proof.Machine
end

