-- ==== Sys2Proof/Decode.lean ====
section
/-! DEFINITION. From bits to commands: the service requests that the request codes and payloads spell (R197), and
`decodeTableWord`. No row of spec/opcode_table.json gives bits, so no word of the table spells a command; a request is
spelt by its code and payload in a frame's service area. -/

namespace Sys2Proof.Decode

open Machine

/-! ### Operands of a payload (R197) -/

/-- The operand of `n` bytes at an offset that an own presence byte precedes there (R197). -/
def optAt (p : List Byte) (offset n : Nat) : OptArg :=
  match readLe p offset 1 with
  | 0 => .absent
  | 1 => .present (readLe p (offset + 1) n)
  | k => .malformed k

/-- The signed operand of 4 bytes at an offset. -/
def signedAt (p : List Byte) (offset : Nat) : Int := signedRead 32 (readLe p offset 4)

/-- The bounds of WRITE_WINDOW: one presence byte, then base and limit (R11). -/
def windowAt (p : List Byte) (offset : Nat) : WindowArg :=
  match readLe p offset 1 with
  | 0 => .absent
  | 1 => .present (readLe p (offset + 1) 2) (readLe p (offset + 3) 2)
  | k => .malformed k

/-- The entry of WRITE_CONVERSION (R20, section 2.2). -/
def conversionAt (p : List Byte) : ConversionArgs :=
  { enabled := readLe p 1 1, source := readLe p 2 1, slotOffset := readLe p 3 2, validity := optAt p 5 2,
    group := readLe p 8 1, firstLine := readLe p 9 1, bitOffset := readLe p 10 1, width := readLe p 11 1,
    signed := readLe p 12 1, gray := readLe p 13 1, numerator := readLe p 14 2, denominator := readLe p 16 2,
    offset := signedAt p 18, maxChange := readLe p 22 4, staleLimit := readLe p 26 1 }

/-- The setup of one line, at an offset (R37). -/
def lineAt (p : List Byte) (offset : Nat) : LineArgs :=
  { polarity := readLe p offset 1, mode := readLe p (offset + 1) 1, function := readLe p (offset + 2) 1 }

/-- The setup of WRITE_LINE_SETUP (R37). -/
def groupAt (p : List Byte) : GroupArgs :=
  { lock := readLe p 1 1, inhibit := optAt p 2 1, lines := Vector.ofFn fun i : Fin 8 => lineAt p (4 + 3 * i.val) }

/-- The pairs of SET_LINES (R38). -/
def pairsAt (p : List Byte) (offset : Nat) : Nat → List (Nat × Nat)
  | 0 => []
  | n + 1 => (readLe p offset 1, readLe p (offset + 1) 1) :: pairsAt p (offset + 2) n

/-- One group entry of a pattern, at an offset (R197). -/
def foldGroupAt (p : List Byte) (offset : Nat) : FoldGroup :=
  { flatLead := readLe p offset 4, kind := readLe p (offset + 4) 1, count := readLe p (offset + 5) 1,
    pitch := readLe p (offset + 6) 2, startDepth := readLe p (offset + 8) 2, endDepth := readLe p (offset + 10) 2 }

/-- `n` group entries of a pattern (R197). -/
def foldGroupsAt (p : List Byte) (offset : Nat) : Nat → List FoldGroup
  | 0 => []
  | n + 1 => foldGroupAt p offset :: foldGroupsAt p (offset + 12) n

/-- The pattern record of WRITE_PATTERN (R48, R197). -/
def patternAt (p : List Byte) : PatternArgs :=
  { leadIn := readLe p 1 4, leadOut := readLe p 5 4, minDwell := readLe p 9 2, maxDwell := readLe p 11 2,
    tolerance := readLe p 13 2, lotClass := readLe p 15 1, groups := foldGroupsAt p 17 (readLe p 16 1) }

/-- The items of WRITE_GEOMETRY (R109). -/
def geometryAt (p : List Byte) : Geometry :=
  { entry := readLe p 0 4, exit := readLe p 4 4, cut := readLe p 8 4, paster := readLe p 12 4, window := readLe p 16 4,
    cutWindow := readLe p 20 4, minGap := readLe p 24 4, spliceMargin := readLe p 28 4, coreReserve := readLe p 32 4,
    spliceLength := readLe p 36 4 }

/-- The settings of WRITE_SPEED_LIMITS (R130). -/
def speedsAt (p : List Byte) : SpeedSettings :=
  { vMax := readLe p 0 4, vInMax := readLe p 4 4, aUp := readLe p 8 4, aDown := readLe p 12 4, aHalt := readLe p 16 4,
    spliceLimit := readLe p 20 4, degradeLimit := readLe p 24 4, dancerSet := readLe p 28 2, kp := readLe p 30 2,
    trimLimit := readLe p 32 4 }

/-- The fields of WRITE_ZONE (R141). -/
def zoneAt (p : List Byte) : ZoneArgs :=
  { role := optAt p 1 1, spanStart := optAt p 3 4, spanEnd := optAt p 8 4, setPoint := readLe p 13 2,
    bandLow := readLe p 15 2, bandHigh := readLe p 17 2, hysteresis := readLe p 19 2, settleCount := readLe p 21 1,
    kp := readLe p 22 2, ki := readLe p 24 2, bias := readLe p 26 2, fallback := readLe p 28 2 }

/-- The notice indices of a selection in 5 bytes (R197). -/
def selectionAt (p : List Byte) : NoticeSet := BitVec.ofNat 40 (readLe p 0 5)

/-! ### Requests -/

/-- A request whose payload must have `n` bytes; any other length is RANGE (R16, R197). -/
def sized (n : Nat) (p : List Byte) (i : Instr) : Except Status Instr := if p.length = n then .ok i else .error .range

/-- RESET: scope RUN 0, FULL 1 (R197, R199). -/
def resetOf (scope : Nat) : Except Status Instr :=
  match scope with
  | 0 => .ok .resetRun
  | 1 => .ok .resetFull
  | _ => .error .range

/-- The request that a code and the bytes of its payload spell, or the status the service handler answers (R16, R197,
section 12.2). -/
def parseRequest (code : Nat) (p : List Byte) : Except Status Instr :=
  match code with
  | 1 => sized 0 p .goActive
  | 2 => sized 0 p .goListen
  | 3 => sized 0 p .resync
  | 4 => sized 1 p (.identify (readLe p 0 1))
  | 5 => sized 7 p (.writeWindow (readLe p 0 1) (readLe p 1 1) (windowAt p 2))
  | 6 => sized 4 p (.writeCommandMap (readLe p 0 1) (optAt p 1 2))
  | 7 => sized 4 p (.setCycle (readLe p 0 2) (readLe p 2 2))
  | 8 => sized 27 p (.writeConversion (readLe p 0 1) (conversionAt p))
  | 9 => sized 2 p (.readQuantity (readLe p 0 1) (readLe p 1 1))
  | 10 => sized 28 p (.writeLineSetup (readLe p 0 1) (groupAt p))
  | 11 => if p.length = 0 then .error .range
          else sized (1 + 2 * readLe p 0 1) p (.setLines (pairsAt p 1 (readLe p 0 1)))
  | 12 => sized 0 p .readLines
  | 13 => sized 5 p (.writeFoldKind (readLe p 0 1) (readLe p 1 1) (readLe p 2 2) (readLe p 4 1))
  | 14 => if p.length < 17 then .error .range
          else sized (17 + 12 * readLe p 16 1) p (.writePattern (readLe p 0 1) (patternAt p))
  | 15 => sized 1 p (.readPattern (readLe p 0 1))
  | 16 => sized 1 p (.deletePattern (readLe p 0 1))
  | 17 => sized 5 p (.appendRun (readLe p 0 1) (readLe p 1 2) (readLe p 3 2))
  | 18 => sized 0 p .cancelRuns
  | 19 => sized 0 p .readOrders
  | 20 => sized 0 p .holdPanels
  | 21 => sized 0 p .releasePanels
  | 22 => sized 1 p (.setOrderLow (readLe p 0 1))
  | 23 => sized 40 p (.writeGeometry (geometryAt p))
  | 24 => sized 1 p (.readList (readLe p 0 1))
  | 25 => sized 1 p (.readRecord (readLe p 0 1))
  | 26 => sized 2 p (.collect (optAt p 0 1))
  | 27 => sized 0 p .enterConfig
  | 28 => sized 0 p .leaveConfig
  | 29 => sized 0 p .start
  | 30 => sized 0 p .stop
  | 31 => sized 0 p .ackHalt
  | 32 => sized 4 p (.setSpeed (readLe p 0 4))
  | 33 => sized 36 p (.writeSpeedLimits (speedsAt p))
  | 34 => sized 30 p (.writeZone (readLe p 0 1) (zoneAt p))
  | 35 => sized 2 p (.zoneEnable (readLe p 0 1) (readLe p 1 1))
  | 36 => sized 2 p (.setPressureMin (readLe p 0 2))
  | 37 => sized 0 p .readZones
  | 38 => sized 8 p
      (.loadRoll (readLe p 0 1) (readLe p 1 2) (readLe p 3 2) (readLe p 5 2) (readLe p 7 1))
  | 39 => sized 1 p (.unloadRoll (readLe p 0 1))
  | 40 => sized 0 p .spliceCancel
  | 41 => sized 8 p (.writeSpliceSettings (readLe p 0 4) (readLe p 4 2) (readLe p 6 2))
  | 42 => sized 0 p .readRolls
  | 43 => sized 4 p (.writeNoticeRoute (readLe p 0 1) (readLe p 1 1) (readLe p 2 1) (readLe p 3 1))
  | 44 => sized 5 p (.setReportMask (selectionAt p))
  | 45 => sized 5 p (.clearNotices (selectionAt p))
  | 46 => sized 0 p .readNotices
  | 47 => sized 0 p .raiseTest
  | 48 => if p.length = 1 then resetOf (readLe p 0 1) else .error .range
  | _ => .error .unknown

/-! ### The encoder: the code and payload of a request, from the same tables -/

/-- An optional operand of `n` bytes with its presence byte; an absent one is followed by zeroes (R197). -/
def optOperand (n : Nat) : OptArg → List Byte
  | .absent => leBytes 1 0 ++ leBytes n 0
  | .present v => leBytes 1 1 ++ leBytes n v
  | .malformed k => leBytes 1 k ++ leBytes n 0

/-- The bounds of WRITE_WINDOW (R11, R197). -/
def windowOperand : WindowArg → List Byte
  | .absent => leBytes 1 0 ++ leBytes 4 0
  | .present b l => leBytes 1 1 ++ leBytes 2 b ++ leBytes 2 l
  | .malformed k => leBytes 1 k ++ leBytes 4 0

/-- A signed operand of 4 bytes: two's complement (R197). -/
def signedOperand (x : Int) : List Byte := leBytes 4 (BitVec.ofInt 32 x).toNat

/-- The bytes of a WRITE_CONVERSION entry. -/
def conversionBytes (a : ConversionArgs) : List Byte :=
  leBytes 1 a.enabled ++ leBytes 1 a.source ++ leBytes 2 a.slotOffset ++ optOperand 2 a.validity ++ leBytes 1 a.group
    ++ leBytes 1 a.firstLine ++ leBytes 1 a.bitOffset ++ leBytes 1 a.width ++ leBytes 1 a.signed ++ leBytes 1 a.gray
    ++ leBytes 2 a.numerator ++ leBytes 2 a.denominator ++ signedOperand a.offset ++ leBytes 4 a.maxChange
    ++ leBytes 1 a.staleLimit

/-- The bytes of a WRITE_LINE_SETUP setup. -/
def groupSetupBytes (a : GroupArgs) : List Byte :=
  leBytes 1 a.lock ++ optOperand 1 a.inhibit
    ++ a.lines.toList.flatMap fun l => leBytes 1 l.polarity ++ leBytes 1 l.mode ++ leBytes 1 l.function

/-- The bytes of a group entry of a pattern. -/
def foldGroupBytes (g : FoldGroup) : List Byte :=
  leBytes 4 g.flatLead ++ leBytes 1 g.kind ++ leBytes 1 g.count ++ leBytes 2 g.pitch ++ leBytes 2 g.startDepth
    ++ leBytes 2 g.endDepth

/-- The bytes of a pattern record after its number. -/
def patternBytes (a : PatternArgs) : List Byte :=
  leBytes 4 a.leadIn ++ leBytes 4 a.leadOut ++ leBytes 2 a.minDwell ++ leBytes 2 a.maxDwell ++ leBytes 2 a.tolerance
    ++ leBytes 1 a.lotClass ++ leBytes 1 a.groups.length ++ a.groups.flatMap foldGroupBytes

/-- The bytes of the ten geometry items. -/
def geometryBytes (g : Geometry) : List Byte :=
  leBytes 4 g.entry ++ leBytes 4 g.exit ++ leBytes 4 g.cut ++ leBytes 4 g.paster ++ leBytes 4 g.window
    ++ leBytes 4 g.cutWindow ++ leBytes 4 g.minGap ++ leBytes 4 g.spliceMargin ++ leBytes 4 g.coreReserve
    ++ leBytes 4 g.spliceLength

/-- The bytes of the ten speed settings. -/
def speedBytes (x : SpeedSettings) : List Byte :=
  leBytes 4 x.vMax ++ leBytes 4 x.vInMax ++ leBytes 4 x.aUp ++ leBytes 4 x.aDown ++ leBytes 4 x.aHalt
    ++ leBytes 4 x.spliceLimit ++ leBytes 4 x.degradeLimit ++ leBytes 2 x.dancerSet ++ leBytes 2 x.kp
    ++ leBytes 4 x.trimLimit

/-- The bytes of a zone's fields. -/
def zoneFieldBytes (a : ZoneArgs) : List Byte :=
  optOperand 1 a.role ++ optOperand 4 a.spanStart ++ optOperand 4 a.spanEnd ++ leBytes 2 a.setPoint
    ++ leBytes 2 a.bandLow ++ leBytes 2 a.bandHigh ++ leBytes 2 a.hysteresis ++ leBytes 1 a.settleCount
    ++ leBytes 2 a.kp ++ leBytes 2 a.ki ++ leBytes 2 a.bias ++ leBytes 2 a.fallback

/-- The request code and payload of a command that is a service request; none for an event (section 12.2, R197). -/
def requestBytes : Instr → Option (Nat × List Byte)
  | .goActive => some (1, [])
  | .goListen => some (2, [])
  | .resync => some (3, [])
  | .identify c => some (4, leBytes 1 c)
  | .writeWindow d n b => some (5, leBytes 1 d ++ leBytes 1 n ++ windowOperand b)
  | .writeCommandMap f o => some (6, leBytes 1 f ++ optOperand 2 o)
  | .setCycle p n => some (7, leBytes 2 p ++ leBytes 2 n)
  | .writeConversion q a => some (8, leBytes 1 q ++ conversionBytes a)
  | .readQuantity q m => some (9, leBytes 1 q ++ leBytes 1 m)
  | .writeLineSetup g a => some (10, leBytes 1 g ++ groupSetupBytes a)
  | .setLines ps => some (11, leBytes 1 ps.length ++ ps.flatMap fun p => leBytes 1 p.1 ++ leBytes 1 p.2)
  | .readLines => some (12, [])
  | .writeFoldKind k m l a => some (13, leBytes 1 k ++ leBytes 1 m ++ leBytes 2 l ++ leBytes 1 a)
  | .writePattern n a => some (14, leBytes 1 n ++ patternBytes a)
  | .readPattern n => some (15, leBytes 1 n)
  | .deletePattern n => some (16, leBytes 1 n)
  | .appendRun p c t => some (17, leBytes 1 p ++ leBytes 2 c ++ leBytes 2 t)
  | .cancelRuns => some (18, [])
  | .readOrders => some (19, [])
  | .holdPanels => some (20, [])
  | .releasePanels => some (21, [])
  | .setOrderLow t => some (22, leBytes 1 t)
  | .writeGeometry g => some (23, geometryBytes g)
  | .readList l => some (24, leBytes 1 l)
  | .readRecord i => some (25, leBytes 1 i)
  | .collect e => some (26, optOperand 1 e)
  | .enterConfig => some (27, [])
  | .leaveConfig => some (28, [])
  | .start => some (29, [])
  | .stop => some (30, [])
  | .ackHalt => some (31, [])
  | .setSpeed v => some (32, leBytes 4 v)
  | .writeSpeedLimits x => some (33, speedBytes x)
  | .writeZone z a => some (34, leBytes 1 z ++ zoneFieldBytes a)
  | .zoneEnable z x => some (35, leBytes 1 z ++ leBytes 1 x)
  | .setPressureMin m => some (36, leBytes 2 m)
  | .readZones => some (37, [])
  | .loadRoll n t c h d => some (38, leBytes 1 n ++ leBytes 2 t ++ leBytes 2 c ++ leBytes 2 h ++ leBytes 1 d)
  | .unloadRoll n => some (39, leBytes 1 n)
  | .spliceCancel => some (40, [])
  | .writeSpliceSettings t m p => some (41, leBytes 4 t ++ leBytes 2 m ++ leBytes 2 p)
  | .readRolls => some (42, [])
  | .writeNoticeRoute i e c g => some (43, leBytes 1 i ++ leBytes 1 e ++ leBytes 1 c ++ leBytes 1 g)
  | .setReportMask x => some (44, leBytes 5 x.toNat)
  | .clearNotices x => some (45, leBytes 5 x.toNat)
  | .readNotices => some (46, [])
  | .raiseTest => some (47, [])
  | .resetRun => some (48, leBytes 1 0)
  | .resetFull => some (48, leBytes 1 1)
  | .powerOn _ | .cycleFrame _ | .syncComplete _ | .badFrameRunFault _ | .silenceTimeout | .faultRecovery _ => none
  | .quantityStale _ _ | .foldCompletion | .zoneSettled _ _ | .matchComplete _ | .matchTimeout _ => none
  | .pasteTimeout _ | .trimAtLimitCount _ => none

end Sys2Proof.Decode

namespace Sys2Proof

/-- The command that a word of `nbits` bits spells by the table's bits: no row of the table gives bits, so none. -/
def decodeTableWord (_nbits _w : Nat) : Option Instr := none

end Sys2Proof
end

