-- ==== Sys2Proof/Machine/FoldArith.lean ====
section
/-! DEFINITION. The arithmetic of folds: graded depth, lengths and ratios (R58, R59, R61), the totals of a pattern (R46),
the CLAMPED attribute (R47), and the entries of a panel (R56). -/

namespace Sys2Proof.Machine

/-- The fold kind entry of number `n` (R42). -/
def kindAt (kinds : Vector FoldKind 16) (n : Nat) : FoldKind := kinds.toList.getD n FoldKind.spacer

/-- An action set that calls for no knife action makes a spacer kind (R42). -/
def isSpacer (k : FoldKind) : Bool := decide (k.actions = ActionSet.empty)

/-- The graded depth of fold `k` of a group, before the limit (R58). -/
def gradedDepth (g : FoldGroup) (k : Nat) : Int :=
  if g.count ≤ 1 then (g.startDepth : Int)
  else (g.startDepth : Int) + roundNearest (((g.endDepth : Int) - (g.startDepth : Int)) * (k : Int)) (g.count - 1)

/-- The calculation depth of fold `k`: the graded depth clamped to `0..L`, whatever the multiplier (R58). What a stroke
carries for multiplier 0 is `strokeDepth` (R74, log entry 44). -/
def calcDepth (g : FoldGroup) (kind : FoldKind) (k : Nat) : Nat := (clampInt 0 kind.limit (gradedDepth g k)).toNat

/-- The input length of a fold of depth `d` (R59). -/
def foldLength (g : FoldGroup) (kind : FoldKind) (d : Nat) : Nat := g.pitch + kind.multiplier * d

/-- The ratio of a fold of input length `u` (R61). -/
def foldRatio (g : FoldGroup) (u : Nat) : Nat := (4096 * u + g.pitch / 2) / g.pitch

/-- The input lengths of the first `n` folds of a group, added up. -/
def foldLengthSum (g : FoldGroup) (kind : FoldKind) : Nat → Nat
  | 0 => 0
  | k + 1 => foldLengthSum g kind k + foldLength g kind (calcDepth g kind k)

/-- The largest ratio among the first `n` folds of a group. -/
def foldRatioMax (g : FoldGroup) (kind : FoldKind) : Nat → Nat
  | 0 => 0
  | k + 1 => max (foldRatioMax g kind k) (foldRatio g (foldLength g kind (calcDepth g kind k)))

/-- The totals of a pattern record against a fold kind table (R46). -/
def computeTotals (kinds : Vector FoldKind 16) (leadIn leadOut : Nat) (groups : List FoldGroup) : Totals :=
  { input := leadIn + (groups.map fun g => g.flatLead + foldLengthSum g (kindAt kinds g.kind) g.count).sum + leadOut
    output := leadIn + (groups.map fun g => g.flatLead + g.count * g.pitch).sum + leadOut
    folds := (groups.map FoldGroup.count).sum
    maxRatio := (groups.map fun g => foldRatioMax g (kindAt kinds g.kind) g.count).foldl max 0 }

/-- The largest specified depth of a group (R47). -/
def largestDepth (g : FoldGroup) : Nat := if g.count ≤ 1 then g.startDepth else max g.startDepth g.endDepth

/-- CLAMPED: some group's largest specified depth is above its kind's limit (R47). -/
def isClamped (kinds : Vector FoldKind 16) (groups : List FoldGroup) : Bool :=
  groups.any fun g => decide ((kindAt kinds g.kind).limit < largestDepth g)

/-- The take-up check on one group (R49). -/
def takeUpHolds (kinds : Vector FoldKind 16) (g : FoldGroup) : Bool :=
  decide (g.pitch + (kindAt kinds g.kind).multiplier * largestDepth g ≤ 9 * g.pitch)

/-- The position of the first group that fails the take-up check (R49). -/
def takeUpFailure (kinds : Vector FoldKind 16) (groups : List FoldGroup) : Option Nat :=
  groups.findIdx? fun g => !takeUpHolds kinds g

/-- A pattern with its totals and CLAMPED attribute computed against a fold kind table (R46, R47). -/
def withTotals (kinds : Vector FoldKind 16) (p : Pattern) : Pattern :=
  { p with totals := computeTotals kinds p.leadIn p.leadOut p.groups, clamped := isClamped kinds p.groups }

/-! ### The entries of a panel -/

/-- What an entry of a panel is before it is calculated (R56): a FLAT of a length, or fold `k` of a group with its fold
number in the panel. -/
inductive EntrySpec where
  | flat (length : Nat)
  | fold (group : FoldGroup) (k number : Nat)
  deriving DecidableEq, Repr

/-- How many entries a group's flat lead makes (R56). -/
def flatLeadEntries (g : FoldGroup) : Nat := if g.flatLead = 0 then 0 else 1

/-- Entry `n` counted from the first group on, with `base` folds before them; the lead-out follows the last group. -/
def entryAfterLeadIn (leadOut : Nat) : List FoldGroup → Nat → Nat → Option EntrySpec
  | [], 0, _ => some (.flat leadOut)
  | [], _ + 1, _ => none
  | g :: rest, n, base =>
    let f := flatLeadEntries g
    if n < f then some (.flat g.flatLead)
    else if n - f < g.count then some (.fold g (n - f) (base + (n - f)))
    else entryAfterLeadIn leadOut rest (n - f - g.count) (base + g.count)

/-- Entry `n` of a panel of a pattern (R56). -/
def entrySpec (p : Pattern) (n : Nat) : Option EntrySpec :=
  match n with
  | 0 => some (.flat p.leadIn)
  | m + 1 => entryAfterLeadIn p.leadOut p.groups m 0

/-- The number of entries of a panel (R56). -/
def entryCount (p : Pattern) : Nat := 2 + (p.groups.map fun g => flatLeadEntries g + g.count).sum

/-- Some acting entry stands at or after entry `placed`, for groups whose first entry is number `first` (R66). -/
def actingFrom (kinds : Vector FoldKind 16) (placed : Nat) : List FoldGroup → Nat → Bool
  | [], _ => false
  | g :: rest, first =>
    let next := first + flatLeadEntries g + g.count
    (!isSpacer (kindAt kinds g.kind) && decide (0 < g.count) && decide (placed < next))
      || actingFrom kinds placed rest next

end Sys2Proof.Machine
end

