-- ==== Sys2Proof/Machine/Flags.lean ====
section
/-! DEFINITION. What is derived from the state and not stored: the notice block's effects and reporting items
(R189, R192), and what the field lines drive and present (R31, R33, R34, R36). -/

namespace Sys2Proof.Machine

/-! ### Notices -/

/-- The index of a notice (section 11.1). -/
def noticeIndex : Notice → Fin 40
  | .ringFault => 0 | .frameError => 1 | .cycleMissed => 2 | .positionLost => 3 | .diameterLost => 4
  | .speedSampleLost => 5 | .dancerLost => 6 | .pressureLost => 7 | .tempLost => 8 | .sampleFiltered => 9
  | .knifeFault => 10 | .cutterFault => 11 | .patternClamped => 12 | .foldLate => 13 | .orderLow => 14
  | .orderEmpty => 15 | .poolLow => 16 | .doneHigh => 17 | .dwellLimiting => 18 | .feedLimiting => 19
  | .dancerLimit => 20 | .zoneLow => 21 | .zoneHigh => 22 | .steamPressureLow => 23 | .doorOpen => 24
  | .panelUnderset => 25 | .panelShortDwell => 26 | .panelOverdwell => 27 | .rollLow => 28 | .noReadyRoll => 29
  | .matchFail => 30 | .spliceFailed => 31 | .pasteFail => 32 | .emergencySplice => 33 | .rollRunout => 34
  | .spliceDone => 35 | .rejectCut => 36 | .cutLate => 37 | .lineStopped => 38 | .test => 39

/-- The set that holds index `i` alone. -/
def noticeBit (i : Fin 40) : NoticeSet := 1#40 <<< i.val

/-- Whether index `i` is pending (R188). -/
def isPending (n : Notices) (i : Fin 40) : Bool := n.pendingSet.getLsbD i.val

/-- Whether some pending notice has an enabled route of class `c` (R189). -/
def classPending (n : Notices) (c : NoticeClass) : Bool :=
  (List.finRange 40).any fun i => isPending n i && n.routes[i].enabled && decide (n.routes[i].cls = c)

/-- HALT pending (R189). -/
def haltPending (n : Notices) : Bool := classPending n .halt

/-- DEGRADE pending (R189). -/
def degradePending (n : Notices) : Bool := classPending n .degrade

/-- The lowest pending index that the mask selects (R192). -/
def lowestPending (n : Notices) : Option (Fin 40) :=
  (List.finRange 40).find? fun i => isPending n i && n.mask.getLsbD i.val

/-- How many indices a set holds (R192). -/
def setSize (x : NoticeSet) : Nat := ((List.finRange 40).filter fun i => x.getLsbD i.val).length

/-- The pending count (R192). -/
def pendingCount (n : Notices) : Nat := setSize n.pendingSet

/-- The group flag of group `g` (R192). -/
def groupFlag (n : Notices) (g : Fin 4) : Bool :=
  (List.finRange 40).any fun i => isPending n i && n.mask.getLsbD i.val && decide (n.routes[i].group = g)

/-! ### States the rules name -/

/-- The line is in RUN or STOPPING. -/
def lineRunning (l : LineState) : Bool := l = .run || l = .stopping

/-- The line is at rest: STOPPED, CONFIGURE, or HALTED with the speed command at 0 (section 12.2). -/
def atRest (g : Governor) : Bool := g.line = .stopped || g.line = .configure || (g.line = .halted && g.command = 0)

/-- The splice state is MATCHING, PASTE or CLEAR. -/
def spliceUnderWay (x : SpliceState) : Bool := x = .matching || x = .paste || x = .clear

/-- The port delivers arrivals and answers requests: LISTEN or ACTIVE (section 1.4). -/
def portServes (p : PortState) : Bool := p = .listen || p = .active

/-! ### Field lines -/

/-- The function is an output function (section 2.6). -/
def isOutput : LineFunction → Bool
  | .lineRun | .lineHalted | .wasteGate | .spliceActive => true
  | .noticeGroup0 | .noticeGroup1 | .noticeGroup2 | .noticeGroup3 | .manual => true
  | _ => false

/-- The group a line belongs to: line number div 8 (section 2.6). -/
def groupOf (n : Fin 32) : Fin 4 := ⟨n.val / 8, by omega⟩

/-- The logical value an output function takes from the state (R36), for a line with manual value `manual`. -/
def outputValue (s : State) (f : LineFunction) (manual : Bool) : Bool :=
  match f with
  | .lineRun => lineRunning s.gov.line
  | .lineHalted => decide (s.gov.line = .halted)
  | .wasteGate => decide (s.takeOff.gate ≠ .good)
  | .spliceActive => spliceUnderWay s.roll.splice
  | .noticeGroup0 => groupFlag s.notices 0
  | .noticeGroup1 => groupFlag s.notices 1
  | .noticeGroup2 => groupFlag s.notices 2
  | .noticeGroup3 => groupFlag s.notices 3
  | .manual => manual
  | _ => false

/-- A line is driven when it carries an output function and its group is unlocked (R31). -/
def lineDriven (s : State) (n : Fin 32) : Bool :=
  isOutput s.lines.lines[n].function && !s.lines.groups[groupOf n].locked

/-- The live value of a line: what a driven line drives, else its pin level under its polarity (R31). -/
def lineLive (s : State) (n : Fin 32) : Bool :=
  let l := s.lines.lines[n]
  if lineDriven s n then outputValue s l.function l.manual else xor (s.lines.pins.getLsbD n.val) l.inverting

/-- The electrical level at a line's pin: a driven line is held at the level that gives its value (R31). -/
def lineLevel (s : State) (n : Fin 32) : Bool :=
  let l := s.lines.lines[n]
  if lineDriven s n then xor (outputValue s l.function l.manual) l.inverting else s.lines.pins.getLsbD n.val

/-- The latched value of a line. -/
def lineLatched (s : State) (n : Fin 32) : Bool := s.lines.latch.getLsbD n.val

/-- The value a line presents to conversion and to input functions (R33). -/
def linePresented (s : State) (n : Fin 32) : Bool :=
  match s.lines.lines[n].mode with
  | .live => lineLive s n
  | .latched | .grayLatched => lineLatched s n

/-- The line that carries a function, if one does (R34). -/
def lineWith (s : State) (f : LineFunction) : Option (Fin 32) :=
  (List.finRange 32).find? fun n => decide (s.lines.lines[n].function = f)

/-- The value of an input function; inactive while no line carries it (R34). -/
def inputReads (s : State) (f : LineFunction) : Bool :=
  match lineWith s f with
  | some n => linePresented s n
  | none => false

/-- The door is open: a line carries TUNNEL_DOOR and it reads inactive (R148). -/
def doorReadsOpen (s : State) : Bool :=
  match lineWith s .tunnelDoor with
  | some n => !linePresented s n
  | none => false

end Sys2Proof.Machine
end

