-- ==== Sys2Proof/Machine/Ops.lean ====
section
/-! DEFINITION. The named operations the blocks share: reading quantities, records and patterns; the edges of a record
(R108); the SET section (R143); the spindles and the budget (R160, R165); opening and closing track records (R92, R98,
R104, R107); the line's entry into HALTED (R126) and the raising of a notice (R188). -/

namespace Sys2Proof.Machine

/-! ### Quantities -/

/-- Quantity `i` (section 2.1). -/
def quantity (s : State) (i : Fin 16) : Quantity := s.converter.quantities[i]

/-- The value of a quantity as a number. -/
def quantityNat (s : State) (i : Fin 16) : Nat := (quantity s i).value.toNat

/-- INFEED_POS. -/
def infeed (s : State) : Position := (quantity s 0).value

/-- BELT_POS. -/
def belt (s : State) : Position := (quantity s 1).value

/-- INFEED_POS is LOST. -/
def infeedLost (s : State) : Bool := (quantity s 0).lost

/-- BELT_POS is LOST. -/
def beltLost (s : State) : Bool := (quantity s 1).lost

/-! ### Geometry, patterns, the SET section -/

/-- The line geometry; while it is absent, a free value (log entry 1). -/
def geometryOf (s : State) : Geometry := s.track.geometry.getD (Config.unsetGeometry s.freeIndex)

/-- The pattern in a place. -/
def patternAt (s : State) (p : Fin 48) : Option Pattern := s.store.places[p]

/-- The current run, while it has panels remaining (R78). -/
def liveRun (q : Sequencer) : Option Run :=
  match q.current with
  | some c => if 0 < c.remaining then some c.run else none
  | none => none

/-- The next panel's pattern number (R82). -/
def nextPattern (q : Sequencer) : Option (Fin 48) :=
  match liveRun q with
  | some r => some r.pattern
  | none => q.queue.head?.map Run.pattern

/-- The zones whose role is SET (R143). -/
def setZones (t : Tunnel) : List ZoneFit :=
  t.zones.toList.filterMap fun z =>
    match z.fit with
    | some f => if f.role = .set then some f else none
    | none => none

/-- S_start and S_end of the SET section, absent without a SET zone (R143). -/
def setSection (t : Tunnel) : Option (Nat × Nat) :=
  match setZones t with
  | [] => none
  | z :: rest => some (rest.foldl (fun a f => min a f.spanStart) z.spanStart,
                       rest.foldl (fun a f => max a f.spanEnd) z.spanEnd)

/-- The dwell limit of a minimum dwell: floor(L_set × 10 / T), absent without a SET section (R132). -/
def dwellLimit (t : Tunnel) (minDwell : Nat) : Option Nat :=
  match setSection t with
  | some (a, b) => some ((b - a) * 10 / minDwell)
  | none => none

/-! ### Track records -/

/-- Track record `i`. -/
def recordAt (s : State) (i : Fin 64) : TrackRecord := s.track.records[i]

/-- The state with record `i` replaced. -/
def setRecord (s : State) (i : Fin 64) (r : TrackRecord) : State :=
  s.withTrack { s.track with records := s.track.records.set i r }

/-- The state with record `i` changed. -/
def updateRecord (s : State) (i : Fin 64) (f : TrackRecord → TrackRecord) : State := setRecord s i (f (recordAt s i))

/-- The kind of the open record: the sequencer state, IDLE when absent (R83). -/
def openKind (s : State) : Option RecordKind :=
  match s.seq.openRecord with
  | some i => (recordAt s i).kind
  | none => none

/-- The open GAP's reason (R100). -/
def openGapReason (s : State) : Option GapReason :=
  match s.seq.openRecord with
  | some i => if (recordAt s i).kind = some .gap then (recordAt s i).gapReason else none
  | none => none

/-- A PANEL is open. -/
def panelOpen (s : State) : Bool := decide (openKind s = some .panel)

/-- The in_start of a record (present from its opening). -/
def inStartOf (r : TrackRecord) : Position := r.inStart.getD 0

/-- The out_start of a record (present from its opening). -/
def outStartOf (r : TrackRecord) : Position := r.outStart.getD 0

/-- The in_len of a record, where it is present. -/
def inLenOf (r : TrackRecord) : Nat := r.inLen.getD 0

/-- The out_len of a record, where it is present. -/
def outLenOf (r : TrackRecord) : Nat := r.outLen.getD 0

/-- The belt distance of a record's lead edge at belt position `p` (R108). -/
def leadEdge (p : Position) (r : TrackRecord) : Position := p - outStartOf r

/-- The belt distance of a record's trail edge; the open record's is at the knife (R108). -/
def trailEdge (p : Position) (r : TrackRecord) : Position :=
  if r.isOpen then 0 else p - beyond (outStartOf r) (outLenOf r)

/-- An edge has reached a distance (R108). The movement tests also hold back the records of `behindKnife` after a re-base
(R111), where this test alone would let an edge at 2^31 or just above pass: the model's choice (log entry 47). -/
def edgeReached (e : Position) (d : Nat) : Bool := reached e (BitVec.ofNat 32 d)

/-- The record's out_start stands at a distance of 2^31 or more from BELT_POS: it lies behind the knife (R108, R111). -/
def behindKnife (s : State) (i : Fin 64) : Bool := !edgeReached (leadEdge (belt s) (recordAt s i)) 0

/-- An edge of record `i` lets it move: it has reached the distance (R108), and no re-base has left the record behind the
knife (R111). -/
def moves (s : State) (i : Fin 64) (e : Position) (d : Nat) : Bool :=
  decide (i ∉ s.track.behind) && edgeReached e d

/-- A PANEL record of a pattern stands in one of the given lists. -/
def panelOfPattern (s : State) (p : Fin 48) (ids : List (Fin 64)) : Bool :=
  ids.any fun i => decide ((recordAt s i).kind = some .panel) && decide ((recordAt s i).pattern = some p)

/-- The pattern is in use (R50). -/
def patternInUse (s : State) (p : Fin 48) : Bool :=
  (match liveRun s.seq with
   | some r => decide (r.pattern = p)
   | none => false)
  || s.seq.queue.any (fun r => decide (r.pattern = p))
  || panelOfPattern s p (s.track.runout ++ s.track.tunnel ++ s.track.exit)

/-- The most recently allocated record still in RUNOUT, TUNNEL, EXIT or DONE (R107). -/
def latestRecord (t : Track) : Option (Fin 64) := (t.done ++ t.exit ++ t.tunnel ++ t.runout).getLast?

/-- The out_start of a record opened now (R107). -/
def openingOutStart (s : State) : Position :=
  match latestRecord s.track with
  | some i => if reached (belt s) (outStartOf (recordAt s i)) then belt s else outStartOf (recordAt s i)
  | none => belt s

/-- A record as its allocation and opening leave the fields that every kind has (R104, section 5.4). -/
def openedRecord (s : State) (kind : RecordKind) : TrackRecord :=
  { TrackRecord.unused with
    kind := some kind, isOpen := true, inStart := some (infeed s), outStart := some (openingOutStart s) }

/-- Allocation (R84, R104): the head of FREE joins the tail of RUNOUT with its new content and becomes the open record.
With FREE empty, which R84 rules out, nothing opens. -/
def allocate (s : State) (r : TrackRecord) : State :=
  match s.track.free with
  | [] => s
  | i :: rest =>
    let s := s.withTrack { s.track with free := rest, runout := s.track.runout ++ [i],
                                        records := s.track.records.set i r }
    s.withSeq { s.seq with openRecord := some i }

/-- The ratio in force becomes 4096 (R69). -/
def resetRatio (s : State) : State := s.withFolds { s.folds with ratio := 4096 }

/-- The opening of a GAP with a reason (R92, R95). -/
def openGap (reason : GapReason) (s : State) : State :=
  resetRatio (allocate s { openedRecord s .gap with gapReason := some reason })

/-! ### The fold calculator's context -/

/-- The requests that count as in flight (R64, R66). -/
def inFlight (f : Calculator) : Nat := (f.requests.filter fun r => !r.abandoned).length

/-- The panel context becomes absent, the cursor with it, and every request in flight is abandoned (R63, R66). -/
def dropContext (s : State) : State :=
  let s := s.withFolds { s.folds with context := none,
                                      requests := s.folds.requests.map fun r => { r with abandoned := true } }
  s.withSeq { s.seq with cursor := none }

/-- The calculator at a halt or a RESET (R67, R77): queue, requests and context go, the ratio is 4096, and the strokes
selected at this arrival are cleared. -/
def haltFolds (s : State) : State :=
  let s := dropContext s
  s.withFolds { s.folds with queue := [], ratio := 4096, strokes := [] }

/-! ### Spindles, budget and joint span -/

/-- A spindle record. -/
def spindle (r : RollChange) : SpindleName → Spindle
  | .a => r.spindleA
  | .b => r.spindleB

/-- The roll change controller with a spindle record replaced. -/
def setSpindle (r : RollChange) (n : SpindleName) (x : Spindle) : RollChange :=
  match n with
  | .a => { r with spindleA := x }
  | .b => { r with spindleB := x }

/-- The spindle in a state, A before B. -/
def spindleIn (r : RollChange) (st : SpindleState) : Option SpindleName :=
  if r.spindleA.state = st then some .a else if r.spindleB.state = st then some .b else none

/-- The resting state (R166). -/
def restingState (r : RollChange) : SpliceState :=
  if (r.spindleA.state = .active ∧ r.spindleB.state = .loaded)
      ∨ (r.spindleB.state = .active ∧ r.spindleA.state = .loaded) then .ready else .standby

/-- The budget of a controller under a core reserve (R165). -/
def budgetOf (r : RollChange) (coreReserve : Nat) : Nat :=
  match spindleIn r .active with
  | some n =>
    match (spindle r n).remaining with
    | some len => len - coreReserve
    | none => 0
  | none => 0

/-- The input span of a record overlaps a joint span (R172). -/
def overlapsJoint (span : JointSpan) (spliceLength : Nat) (start : Position) (inLen : Nat) : Bool :=
  decide (distance span.j0 start < inLen) || decide (distance start span.j0 < spliceLength)

/-- The PANEL record `i` takes SPLICED when it overlaps a pending joint span (R172). -/
def markSpliced (s : State) (i : Fin 64) : State :=
  match s.roll.span with
  | some span =>
    let r := recordAt s i
    if overlapsJoint span (geometryOf s).spliceLength (inStartOf r) (inLenOf r) then
      setRecord s i { r with marks := { r.marks with spliced := true } }
    else s
  | none => s

/-- The joint test at the closing of PANEL `i` (R172); a span whose joint has cleared is discarded (R171). -/
def closeAgainstJoint (s : State) (i : Fin 64) : State :=
  let s := markSpliced s i
  if s.roll.splice = .clear then s else s.withRoll { s.roll with span := none }

/-- The controller enters its resting state from ARMED or MATCHING, with a match count of 0 (R173, R174). -/
def settleSplice (r : RollChange) : RollChange :=
  if r.splice = .armed ∨ r.splice = .matching then { r with splice := restingState r, matchCount := 0 } else r

/-! ### Closing records -/

/-- A GAP or SPLICE as its closing at INFEED_POS `p` leaves it: out_len equals in_len (R92, R93). -/
def closedFlat (p : Position) (r : TrackRecord) : TrackRecord :=
  let n := distance p (inStartOf r)
  { r with isOpen := false, inLen := some n, outLen := some n }

/-- A PANEL as its closing in HALTED leaves it: measured lengths and the mark ABORTED (R98). -/
def closedAborted (p b : Position) (r : TrackRecord) : TrackRecord :=
  { r with isOpen := false, inLen := some (distance p (inStartOf r)), outLen := some (distance b (outStartOf r)),
           marks := { r.marks with aborted := true } }

/-- No record is open: the sequencer is IDLE until the next opening. -/
def noOpenRecord (s : State) : State := s.withSeq { s.seq with openRecord := none }

/-- The open GAP or SPLICE record closes with measured lengths (R92, R93, R97). -/
def closeFlat (s : State) : State :=
  match s.seq.openRecord with
  | some i => noOpenRecord (updateRecord s i (closedFlat (infeed s)))
  | none => s

/-- The open record closes in HALTED and the sequencer enters IDLE, measured from the values the quantities hold at the
closing (R98), also where the arrival's conversion is still to come: the model's choice (log entry 45). -/
def closeHalted (s : State) : State :=
  match s.seq.openRecord with
  | some i =>
    if (recordAt s i).kind = some .panel then
      noOpenRecord (closeAgainstJoint (updateRecord s i (closedAborted (infeed s) (belt s))) i)
    else closeFlat s
  | none => s

/-! ### Halting and raising -/

/-- In HALTED with the speed command at 0 no record stays open (R98, R127). -/
def settleHalted (s : State) : State :=
  if s.gov.line = .halted ∧ s.gov.command = 0 then closeHalted s else s

/-- The line's entry into HALTED (R126): the calculator is emptied (R67), a controller in MATCHING enters ARMED (R174),
the target is 0, and the open record closes when the speed command is already 0. That the source reported is HALT from
the entry on, and not from the next composition, is the model's choice (log entry 35). -/
def enterHalted (s : State) : State :=
  let s := haltFolds s
  let s := s.withGov { s.gov with line := .halted, rampStarted := false, target := 0, source := .halt }
  let s := if s.roll.splice = .matching then s.withRoll { s.roll with splice := .armed, matchCount := 0 } else s
  settleHalted s

/-- A halt demand acts in RUN and STOPPING only (R189). -/
def haltDemand (s : State) : State := if lineRunning s.gov.line then enterHalted s else s

/-- The raising of a notice under its route as it stands (R188, R189). -/
def raiseNotice (n : Notice) (s : State) : State :=
  let route := s.notices.routes[noticeIndex n]
  if route.enabled then
    let s := s.withNotices { s.notices with pendingSet := s.notices.pendingSet ||| noticeBit (noticeIndex n) }
    if route.cls = .halt then haltDemand s else s
  else s

/-- Notices raised one after another. -/
def raiseAll : List Notice → State → State
  | [], s => s
  | n :: rest, s => raiseAll rest (raiseNotice n s)

/-- A notice raised where a condition holds. -/
def raiseWhen (c : Bool) (n : Notice) (s : State) : State := if c then raiseNotice n s else s

end Sys2Proof.Machine
end

