-- ==== Sys2Proof/Machine/Folds.lean ====
section
/-! DEFINITION. The fold calculator (04_fold_calculation_and_stroke_emission.md): issue of fold requests, completion,
passing, late entries and emission. -/

namespace Sys2Proof.Machine

/-- The fold kind entry an entry's request carries (R64): that of a FOLD entry's group. A FLAT entry's request carries none,
not even for a group's flat lead: the model's choice (log entry 39). -/
def carriedKind (kinds : Vector FoldKind 16) : Option EntrySpec → Option FoldKind
  | some (.fold g _ _) => some (kindAt kinds g.kind)
  | _ => none

/-- One request is issued, when the conditions of R64 hold. -/
def issueOne (s : State) : State :=
  match s.folds.context, s.seq.cursor with
  | some c, some n =>
    match patternAt s c.pattern with
    | some p =>
      if n < entryCount p ∧ inFlight s.folds < 8 ∧ inFlight s.folds + s.folds.queue.length < 32 then
        let r : FoldRequest :=
          { serial := c.serial, entry := n, kind := carriedKind s.store.kinds (entrySpec p n), abandoned := false }
        let s := s.withFolds { s.folds with requests := s.folds.requests ++ [r] }
        s.withSeq { s.seq with cursor := some (n + 1) }
      else s
    | none => s
  | _, _ => s

/-- Requests are issued one after another as the conditions allow (R64): at most eight are in flight, so eight tries
take every one they allow. -/
def issueRequests (s : State) : State :=
  issueOne (issueOne (issueOne (issueOne (issueOne (issueOne (issueOne (issueOne s)))))))

/-- The entry a completion makes, at the context's running offset (R57 to R61, R65). -/
def completedEntry (c : PanelContext) (kind : FoldKind) : EntrySpec → StrokeEntry
  | .flat len =>
    { position := beyond c.start c.offset, length := len, ratio := 4096, fold := none, serial := c.serial,
      record := c.record, emitted := false }
  | .fold g k number =>
    let d := calcDepth g kind k
    let u := foldLength g kind d
    { position := beyond c.start c.offset, length := u, ratio := foldRatio g u,
      fold := some { depth := d, multiplier := kind.multiplier, actions := kind.actions, number := number }, serial := c.serial, record := c.record,
      emitted := false }

/-- The request belongs to the context present at its completion (R65). -/
def belongsTo (r : FoldRequest) (c : PanelContext) : Bool := !r.abandoned && decide (r.serial = c.serial)

/-- The completion of the oldest request (R65): its entry joins the tail of the queue and the sequencer takes up
issuing, or it is discarded. -/
def completeRequest (s : State) : State :=
  match s.folds.requests with
  | [] => s
  | r :: rest =>
    let s := s.withFolds { s.folds with requests := rest }
    match s.folds.context with
    | none => s
    | some c =>
      if belongsTo r c then
        match (patternAt s c.pattern).bind fun p => entrySpec p r.entry with
        | none => s
        | some spec =>
          let e := completedEntry c (r.kind.getD FoldKind.spacer) spec
          issueRequests
            (s.withFolds { s.folds with queue := s.folds.queue ++ [e],
                                        context := some { c with offset := c.offset + e.length } })
      else s

/-- An acting entry is a FOLD whose action set is not empty (R56). -/
def isActing (e : StrokeEntry) : Bool :=
  match e.fold with
  | some f => decide (f.actions ≠ ActionSet.empty)
  | none => false

/-- An entry passes (R70): its ratio comes into force, and an acting entry never emitted is late (R71). -/
def passEntry (e : StrokeEntry) (rest : List StrokeEntry) (s : State) : State :=
  let s := s.withFolds { s.folds with queue := rest, ratio := e.ratio }
  let s :=
    if isActing e && !e.emitted then
      raiseNotice .foldLate
        (updateRecord s e.record fun r => { r with marks := { r.marks with misfold := true } })
    else s
  issueRequests s

/-- The passing: entries leave at the head while INFEED_POS has reached them (R70). A passing adds no entry, so as many
tries as the queue has entries take every one. -/
def passing : Nat → State → State
  | 0, s => s
  | n + 1, s =>
    match s.folds.queue with
    | [] => s
    | e :: rest => if reached (infeed s) e.position then passing n (passEntry e rest s) else s

/-- The entry qualifies for emission within window `w` (R72). -/
def qualifies (p : Position) (w : Nat) (e : StrokeEntry) : Bool :=
  isActing e && !e.emitted && decide (distance e.position p ≤ w)

/-- The depth a stroke carries: the entry's calculation depth (R58, R73), and 0 for a kind of multiplier 0 (R74). That R74
is taken before R58 and R73 there is the model's choice (log entry 44). -/
def strokeDepth (f : FoldPart) : Nat := if f.multiplier = 0 then 0 else f.depth

/-- The stroke of an acting entry (R73, R74). -/
def strokeOf (e : StrokeEntry) : List Stroke :=
  match e.fold with
  | some f => [{ position := e.position, depth := strokeDepth f, actions := f.actions, fold := f.number % 256,
                 serial := e.serial % 256 }]
  | none => []

/-- The first `n` qualifying entries of a queue are selected: the strokes, and the queue with them emitted (R72). -/
def selectStrokes (p : Position) (w : Nat) : Nat → List StrokeEntry → List Stroke × List StrokeEntry
  | _, [] => ([], [])
  | 0, q => ([], q)
  | n + 1, e :: rest =>
    if qualifies p w e then
      let r := selectStrokes p w n rest
      (strokeOf e ++ r.1, { e with emitted := true } :: r.2)
    else
      let r := selectStrokes p w (n + 1) rest
      (r.1, e :: r.2)

/-- The emission of an ACTIVE arrival (R72, R73). -/
def emission (s : State) : State :=
  let r := selectStrokes (infeed s) (geometryOf s).window 4 s.folds.queue
  s.withFolds { s.folds with queue := r.2, strokes := r.1 }

/-- Passing and emission of an ACTIVE arrival; with INFEED_POS LOST neither is made and STROKES is empty (R75). -/
def foldWork (s : State) : State :=
  if infeedLost s then s.withFolds { s.folds with strokes := [] }
  else emission (passing s.folds.queue.length s)

end Sys2Proof.Machine
end

