-- ==== Sys2Proof/Machine/RingPort.lean ====
section
/-! DEFINITION. The ring port (01_the_ring_port.md): frame checks, sequence and timing, the port states, windows and map,
the port's checks at LEAVE_CONFIG, and its service requests. -/

namespace Sys2Proof.Machine

/-! ### Frame checks -/

/-- The slot area length passes the length check (R3 step 5). It must also be the length of the slot area the frame
carries, which R201 lays between header and service area: that another length gives LENGTH is the model's choice (log
entry 15). -/
def slotLengthPasses (p : RingPort) (f : Frame) : Bool :=
  decide (f.slots.length = f.slotLength.toNat) && within 64 1024 f.slotLength.toNat
    && (match p.slotLength with
        | some n => decide (f.slotLength.toNat = n)
        | none => true)

/-- The first check of R3 that a frame fails, by its code; absent for a good frame. -/
def frameFinding (p : RingPort) (f : Frame) : Option ErrorCode :=
  if frameCrc f ≠ f.crc then some .crc
  else if f.kind ≠ 1 then some .format
  else if 192 < f.payloadLength.toNat then some .format
  else if isDamaged f then some .crc
  else if slotLengthPasses p f then none else some .length

/-- The gap of cycle numbers from the previous good frame (R4). -/
def cycleGap (p : RingPort) (f : Frame) : Option Nat := p.previous.map fun v => (f.cycle - v.1).toNat

/-- The interval handed with an arrival: the raw interval capped at four nominal periods, or one period for the first
good frame (R4). -/
def frameInterval (p : RingPort) (f : Frame) : Nat :=
  match p.previous with
  | some v => min (distance f.timestamp v.2) (4 * p.period)
  | none => p.period

/-- The frame is LATE: twice its raw interval exceeds three nominal periods (R4). -/
def isLate (p : RingPort) (f : Frame) : Bool :=
  match p.previous with
  | some v => decide (3 * p.period < 2 * distance f.timestamp v.2)
  | none => false

/-- The examination of a good frame for sequence and timing (R4). A record that its CYCLE_MISSED closes is measured with the
positions before the arrival's conversion: the model's choice (log entry 45). -/
def examineGood (f : Frame) (s : State) : State :=
  let p := s.port
  let p' := { p with previous := some (f.cycle, f.timestamp) }
  match cycleGap p f with
  | none => s.withPort p'
  | some g =>
    if g ≠ 1 then
      raiseNotice .cycleMissed
        (s.withPort { p' with lastError := .sequence, missedCycles := saturate counterMax p.missedCycles (g - 1) })
    else if isLate p f then
      raiseNotice .cycleMissed
        (s.withPort { p' with lastError := .late, missedCycles := saturate counterMax p.missedCycles 1 })
    else s.withPort p'

/-! ### Port states -/

/-- Four nominal cycle periods after the timer reading (R6). -/
def nextDeadline (s : State) : Option Nat := some (s.timer + 4 * s.port.period)

/-- Entry into LISTEN: the run count is 0 and the silence deadline is set (R6, R8). -/
def enterListen (s : State) : State :=
  s.withPort { s.port with state := .listen, runCount := 0, deadline := nextDeadline s }

/-- Entry into FAULT: recovery counts from 0, the deadline stops and RING_FAULT is raised (R9). -/
def enterFault (s : State) : State :=
  raiseNotice .ringFault (s.withPort { s.port with state := .fault, recoveryCount := 0, deadline := none })

/-- The silence deadline expires (R6). -/
def expireSilence (s : State) : State := enterFault (s.withPort { s.port with lastError := .silence })

/-- Entry into SYNCING by RESYNC: a sync count of 0 and no deadline (R7, R10). -/
def enterSyncing (s : State) : State :=
  s.withPort { s.port with state := .syncing, syncCount := 0, deadline := none }

/-- What every bad frame does to the counters (R3). -/
def countBad (code : ErrorCode) (s : State) : State :=
  raiseNotice .frameError
    (s.withPort { s.port with lastError := code, badFrames := saturate counterMax s.port.badFrames 1 })

/-- What a bad frame does to the count of the port's state (R7, R8, R9). -/
def countBadRun (s : State) : State :=
  match s.port.state with
  | .offline => s
  | .syncing => s.withPort { s.port with syncCount := 0 }
  | .fault => s.withPort { s.port with recoveryCount := 0 }
  | .listen | .active =>
    let s := s.withPort { s.port with runCount := saturate 3 s.port.runCount 1 }
    if s.port.runCount = 3 then enterFault s else s

/-- What a good frame that is no arrival does to the port's state (R7, R9); `gap` is its cycle gap. -/
def countGood (gap : Option Nat) (s : State) : State :=
  match s.port.state with
  | .offline => s.withPort { s.port with state := .syncing, syncCount := 1 }
  | .syncing =>
    let n := if gap = some 1 then saturate 8 s.port.syncCount 1 else 1
    let s := s.withPort { s.port with syncCount := n }
    if n = 8 then enterListen s else s
  | .fault =>
    let s := s.withPort { s.port with recoveryCount := saturate 64 s.port.recoveryCount 1 }
    if s.port.recoveryCount = 64 then enterListen s else s
  | .listen | .active => s

/-- What a good frame in LISTEN or ACTIVE does to the port before its arrival work (R6, R8). -/
def countArrival (s : State) : State :=
  s.withPort { s.port with runCount := 0, deadline := nextDeadline s }

/-! ### Windows and the command field map -/

/-- The sizes of the nine command fields in the table order of section 1.5 (R202). -/
def fieldSize (i : Fin 9) : Nat := #v[36, 4, 4, 4, 4, 2, 12, 6, 26][i]

/-- STATUS is the last of the nine fields. -/
def statusField : Fin 9 := 8

/-- `n` bytes from an offset lie wholly within one present window. -/
def insideOneWindow (ws : Vector (Option Window) 4) (offset n : Nat) : Bool :=
  ws.toList.any fun w =>
    match w with
    | some x => decide (x.base ≤ offset) && decide (offset + n ≤ x.limit + 1)
    | none => false

/-- The number of source bytes of a FRAME entry (R14, R20, R21). -/
def sourceBytes (e : ConversionEntry) : Nat := (e.bitOffset + e.width + 7) / 8

/-- The enabled FRAME entries, in quantity order. -/
def frameEntries (c : Converter) : List (Fin 16) :=
  (List.finRange 16).filter fun q => c.entries[q].enabled && decide (c.entries[q].source = .frame)

/-- The first window of a direction whose limit is not below the slot area length (R14 check 2). -/
def windowOutside (ws : Vector (Option Window) 4) (slotLength : Nat) : Option (Fin 4) :=
  (List.finRange 4).find? fun i =>
    match ws[i] with
    | some w => decide (slotLength ≤ w.limit)
    | none => false

/-- The first field that lies in no one write window (R14 check 4). -/
def fieldOutside (p : RingPort) : Option (Fin 9) :=
  (List.finRange 9).find? fun i =>
    match p.map[i] with
    | some at' => !insideOneWindow p.writeWindows at' (fieldSize i)
    | none => false

/-- Two present fields share a byte. -/
def fieldsShare (p : RingPort) (i j : Fin 9) : Bool :=
  match p.map[i], p.map[j] with
  | some a, some b => decide (a < b + fieldSize j) && decide (b < a + fieldSize i)
  | _, _ => false

/-- The first field, in the order of the table of section 1.5, that shares a byte with any earlier one (R14 check 5). R14
names the later field of a pair; which pair stands when several overlap is the model's choice (log entry 31). -/
def fieldOverlapping (p : RingPort) : Option (Fin 9) :=
  (List.finRange 9).find? fun j => (List.finRange 9).any fun i => decide (i < j) && fieldsShare p i j

/-- A violation and its items (R198). -/
abbrev Violation := Nat × Nat × Nat

/-- The port's seven checks at LEAVE_CONFIG, in order (R14). -/
def portViolation (s : State) : Option Violation :=
  let p := s.port
  match p.slotLength with
  | none => some (2, 0, 0)
  | some n =>
    match windowOutside p.readWindows n with
    | some i => some (3, 0, i.val)
    | none =>
    match windowOutside p.writeWindows n with
    | some i => some (3, 1, i.val)
    | none =>
    if p.map[statusField] = none then some (4, 0, 0)
    else
    match fieldOutside p with
    | some i => some (5, i.val, 0)
    | none =>
    match fieldOverlapping p with
    | some j => some (6, j.val, 0)
    | none =>
    match (frameEntries s.converter).find? fun q =>
        let e := s.converter.entries[q]
        !insideOneWindow p.readWindows e.slotOffset (sourceBytes e) with
    | some q => some (7, q.val, 0)
    | none =>
    match (frameEntries s.converter).find? fun q =>
        match s.converter.entries[q].validity with
        | some v => !insideOneWindow p.readWindows v 1
        | none => false with
    | some q => some (8, q.val, 0)
    | none => none

/-! ### Service requests of the port -/

/-- GO_LISTEN and RESYNC are refused: the line is in RUN or STOPPING, or in HALTED above 0 (R10). -/
def portRequestRefused (g : Governor) : Bool := lineRunning g.line || (decide (g.line = .halted) && decide (g.command ≠ 0))

/-- GO_ACTIVE (R10). -/
def goActive (s : State) : State × Reply :=
  if s.port.state = .listen then
    if s.gov.line = .configure then refuse s .state
    else (s.withPort { s.port with state := .active }, okay [])
  else (s, okay [])

/-- GO_LISTEN (R10). -/
def goListen (s : State) : State × Reply :=
  if portRequestRefused s.gov then refuse s .state
  else if s.port.state = .active then (enterListen s, okay [])
  else (s, okay [])

/-- RESYNC (R10). -/
def resync (s : State) : State × Reply :=
  if portRequestRefused s.gov then refuse s .state else (enterSyncing s, okay [])

/-- The payload of IDENTIFY (R17). -/
def identifyPayload (s : State) : List Byte :=
  let p := s.port
  leBytes 2 624 ++ leBytes 1 3 ++ leBytes 1 p.address.toNat
    ++ leBytes 1 (if p.state = .active then 1 else 0)
    ++ leBytes 2 p.period ++ optBytes 2 p.slotLength ++ leBytes 1 (errorCode p.lastError)
    ++ leBytes 4 p.badFrames ++ leBytes 4 p.missedCycles
    ++ leBytes 1 48 ++ leBytes 1 16 ++ leBytes 1 64 ++ leBytes 1 16 ++ leBytes 1 32 ++ leBytes 1 8 ++ leBytes 1 16
    ++ leBytes 1 32 ++ leBytes 1 6 ++ leBytes 1 40 ++ leBytes 1 4 ++ leBytes 1 4

/-- IDENTIFY (R17). -/
def identify (clear : Nat) (s : State) : State × Reply :=
  match zeroOne clear with
  | none => refuse s .range
  | some c =>
    (if c then s.withPort { s.port with badFrames := 0, missedCycles := 0 } else s, okay (identifyPayload s))

/-- The window WRITE_WINDOW gives, absent when its bounds are out of range (R11). -/
def windowOf : WindowArg → Option (Option Window)
  | .absent => some none
  | .present b l => if b ≤ l ∧ l ≤ 1023 then some (some { base := b, limit := l }) else none
  | .malformed _ => none

/-- WRITE_WINDOW (R11). -/
def writeWindow (direction number : Nat) (bounds : WindowArg) (s : State) : State × Reply :=
  if s.gov.line ≠ .configure then refuse s .state
  else
    match firstOfTwo direction, index? 4 number, windowOf bounds with
    | some true, some i, some w => (s.withPort { s.port with readWindows := s.port.readWindows.set i w }, okay [])
    | some false, some i, some w => (s.withPort { s.port with writeWindows := s.port.writeWindows.set i w }, okay [])
    | _, _, _ => refuse s .range

/-- The offset WRITE_COMMAND_MAP gives a field, absent when it is out of range (R12). -/
def fieldOffsetOf (i : Fin 9) : OptArg → Option (Option Nat)
  | .absent => if i = statusField then none else some none
  | .present n => if n + fieldSize i ≤ 1024 then some (some n) else none
  | .malformed _ => none

/-- WRITE_COMMAND_MAP (R12). -/
def writeCommandMap (field : Nat) (offset : OptArg) (s : State) : State × Reply :=
  if s.gov.line ≠ .configure then refuse s .state
  else
    match index? 9 field with
    | none => refuse s .range
    | some i =>
      match fieldOffsetOf i offset with
      | none => refuse s .range
      | some v => (s.withPort { s.port with map := s.port.map.set i v }, okay [])

/-- SET_CYCLE (R13). -/
def setCycle (period slotLength : Nat) (s : State) : State × Reply :=
  if s.gov.line ≠ .configure then refuse s .state
  else if within 250 4000 period && within 64 1024 slotLength then
    (s.withPort { s.port with period := period, slotLength := some slotLength }, okay [])
  else refuse s .range

end Sys2Proof.Machine
end

