-- ==== Sys2Proof/Machine/Formats.lean ====
section
/-! DEFINITION. The contents of the nine command fields (R202), the status record (R203), and their writing into a frame
(R15). -/

namespace Sys2Proof.Machine

/-! ### The fields -/

/-- A stroke entry (R73, R202). -/
def strokeBytes (k : Stroke) : List Byte :=
  leBytes 4 k.position.toNat ++ leBytes 2 k.depth ++ leBytes 1 (actionsCode k.actions) ++ leBytes 1 k.fold
    ++ leBytes 1 k.serial

/-- The STROKES field: four entries, those the list does not fill empty (R73, R202). -/
def strokesBytes (ks : List Stroke) : List Byte := (padded 36 (ks.flatMap strokeBytes)).toList

/-- The PASTE field (R170, R202). -/
def pasteBytes : Option SpindleName → List Byte
  | none => leBytes 1 0 ++ leBytes 1 0
  | some .a => leBytes 1 1 ++ leBytes 1 1
  | some .b => leBytes 1 2 ++ leBytes 1 1

/-- The VALVES field (R151, R202). -/
def valvesBytes (t : Tunnel) : List Byte := t.zones.toList.flatMap fun z => leBytes 2 z.opening

/-- The CUT field (R183, R202). -/
def cutBytes : Option CutEntry → List Byte
  | none => leBytes 4 0 ++ leBytes 1 0 ++ leBytes 1 0
  | some c => leBytes 4 c.position.toNat ++ leBytes 1 c.record.val ++ leBytes 1 (dispositionCode (some c.disposition))

/-- The group flags as a byte, group `n` at bit `n` (R203). -/
def groupFlagsCode (n : Notices) : Nat :=
  bit (groupFlag n 0) + 2 * bit (groupFlag n 1) + 4 * bit (groupFlag n 2) + 8 * bit (groupFlag n 3)

/-- The current lot tag and panel serial (R100, R203). -/
def lastPanelBytes : Option (Nat × Nat) → List Byte
  | none => leBytes 1 0 ++ leBytes 2 0 ++ leBytes 4 0
  | some p => leBytes 1 1 ++ leBytes 2 p.1 ++ leBytes 4 p.2

/-- The lowest pending index as the status record carries it: 255 for none (R192, R203). -/
def lowestCode (n : Notices) : Nat :=
  match lowestPending n with
  | some i => i.val
  | none => 255

/-- The status record (R203). -/
def statusBytes (s : State) : List Byte :=
  leBytes 1 (lineStateCode s.gov.line) ++ leBytes 1 (kindCode (openKind s)) ++ leBytes 1 (gapReasonCode (openGapReason s))
    ++ leBytes 1 (spliceStateCode s.roll.splice) ++ leBytes 4 s.gov.command ++ leBytes 4 s.gov.target
    ++ leBytes 1 (sourceCode s.gov.source) ++ leBytes 1 (lowestCode s.notices) ++ leBytes 1 (pendingCount s.notices)
    ++ leBytes 1 (groupFlagsCode s.notices) ++ leBytes 1 s.track.free.length ++ leBytes 1 s.track.done.length
    ++ lastPanelBytes s.seq.lastPanel ++ leBytes 1 (errorCode s.port.lastError)

/-- The bytes of command field `i`, in the table order of section 1.5 (R202). -/
def fieldBytes (s : State) (i : Fin 9) : List Byte :=
  match i with
  | 0 => strokesBytes s.folds.strokes
  | 1 => leBytes 4 s.gov.vIn
  | 2 => leBytes 4 s.gov.command
  | 3 => leBytes 4 s.gov.spindleA
  | 4 => leBytes 4 s.gov.spindleB
  | 5 => pasteBytes s.roll.paste
  | 6 => valvesBytes s.tunnel
  | 7 => cutBytes s.takeOff.cutEntry
  | 8 => statusBytes s

/-! ### Writing -/

/-- The offset at which the port writes field `i` into a slot area of `n` bytes, when it may (R15). -/
def writableAt (p : RingPort) (n : Nat) (i : Fin 9) : Option Nat :=
  match p.map[i] with
  | some o => if insideOneWindow p.writeWindows o (fieldSize i) && decide (o + fieldSize i ≤ n) then some o else none
  | none => none

/-- Field `i` written into a slot area where it may be (R15). -/
def writeField (s : State) (slots : List Byte) (i : Fin 9) : List Byte :=
  match writableAt s.port slots.length i with
  | some o => overwrite slots o (fieldBytes s i)
  | none => slots

/-- The fields the port writes in its state: all in ACTIVE, STATUS alone in LISTEN, none elsewhere (R15). -/
def fieldsWritten : PortState → List (Fin 9)
  | .active => List.finRange 9
  | .listen => [statusField]
  | .offline | .syncing | .fault => []

/-- The slot area of a good frame as the port leaves it (R15). -/
def writtenSlots (s : State) (slots : List Byte) : List Byte := (fieldsWritten s.port.state).foldl (writeField s) slots

/-- Whether the port writes any field into a slot area of `n` bytes. -/
def writesAny (p : RingPort) (n : Nat) : Bool := (fieldsWritten p.state).any fun i => (writableAt p n i).isSome

end Sys2Proof.Machine
end

