-- ==== Sys2Proof/Machine/Quantities.lean ====
section
/-! DEFINITION. The sample converter (02_quantities_and_field_lines.md sections 2.1 to 2.5): raw samples, decoding,
conversion, ageing and loss, WRITE_CONVERSION and READ_QUANTITY. -/

namespace Sys2Proof.Machine

/-- The top of a quantity's range (section 2.1). -/
def rangeTop (q : Fin 16) : Nat :=
  #v[4294967295, 4294967295, 150000, 150000, 1000000, 1000000, 1000, 1000,
     2500, 2500, 2500, 2500, 2500, 2500, 2, 2][q]

/-- INFEED_POS and BELT_POS are incremental (section 2.1). -/
def isIncremental (q : Fin 16) : Bool := decide (q.val < 2)

/-- The notice raised on entry into LOST (R27). -/
def lossNotice (q : Fin 16) : Option Notice :=
  if q.val < 2 then some .positionLost
  else if q.val < 4 then some .diameterLost
  else if q.val < 6 then some .speedSampleLost
  else if q.val = 6 then some .dancerLost
  else if q.val = 7 then some .pressureLost
  else if q.val < 14 then some .tempLost
  else none

/-- The notice raised when a state quantity enters 2 (R28). -/
def faultNotice (q : Fin 16) : Option Notice :=
  if q.val = 14 then some .knifeFault else if q.val = 15 then some .cutterFault else none

/-! ### Raw samples -/

/-- The raw count of a FRAME entry, absent when its sample is invalid (R21). -/
def frameSample (windows : Vector (Option Window) 4) (slots : List Byte) (e : ConversionEntry) : Option Nat :=
  let n := sourceBytes e
  let inside := decide (e.slotOffset + n ≤ slots.length) && insideOneWindow windows e.slotOffset n
  let valid :=
    match e.validity with
    | none => true
    | some v => decide (v < slots.length) && insideOneWindow windows v 1 && decide (slots.getD v 0 = 0)
  if inside && valid then some (readLe slots e.slotOffset n / 2 ^ e.bitOffset % 2 ^ e.width) else none

/-- The lines of a LINES entry's run, the first line first (R22). -/
def runLines (e : ConversionEntry) : List (Fin 32) :=
  (List.finRange 32).filter fun n =>
    decide (e.group * 8 + e.firstLine ≤ n.val) && decide (n.val < e.group * 8 + e.firstLine + e.width)

/-- The number whose binary digits are given, least significant first. -/
def digitsValue : List Bool → Nat
  | [] => 0
  | b :: rest => bit b + 2 * digitsValue rest

/-- The raw count of a LINES entry, absent when a group of its run was held (R22). -/
def linesSample (s : State) (e : ConversionEntry) : Option Nat :=
  let run := runLines e
  if run.any (fun n => s.lines.groups[groupOf n].held) then none
  else some (digitsValue (run.map (linePresented s)))

/-- The decoded count of an entry's sample at an arrival (R21 to R23). -/
def decodedSample (s : State) (slots : List Byte) (e : ConversionEntry) : Option Nat :=
  let raw := match e.source with
    | .frame => frameSample s.port.readWindows slots e
    | .lines => linesSample s e
  raw.map fun c => if e.gray then grayDecode e.width c else c

/-! ### Conversion -/

/-- A decoded count as the signed flag reads it (R23). -/
def signedCount (e : ConversionEntry) (c : Nat) : Int := if e.signed then signedRead e.width c else (c : Int)

/-- Count × numerator / denominator rounded to nearest, plus the offset (R24 step 1, R26). -/
def scaled (e : ConversionEntry) (c : Nat) : Int :=
  roundNearest (signedCount e c * (e.numerator : Int)) e.denominator + e.offset

/-- A valid sample of an absolute or code quantity: the new value, and whether it was filtered (R24). -/
def convertAbsolute (top : Nat) (e : ConversionEntry) (q : Quantity) (c : Nat) : Nat × Bool :=
  let target := (clampInt 0 top (scaled e c)).toNat
  let present := q.value.toNat
  if q.lastRaw.isSome ∧ e.maxChange ≠ 0 ∧ target > present + e.maxChange then (present + e.maxChange, true)
  else if q.lastRaw.isSome ∧ e.maxChange ≠ 0 ∧ present > target + e.maxChange then (present - e.maxChange, true)
  else (target, false)

/-- The delta of an incremental sample before the filter (R26 step 1). -/
def rawDelta (e : ConversionEntry) (last c : Nat) : Int :=
  signedRead e.width (((c : Int) - (last : Int)) % (2 ^ e.width : Int)).toNat

/-- The delta after the filter of R26 step 2, and whether it was filtered. -/
def filteredDelta (e : ConversionEntry) (d : Int) : Int × Bool :=
  if e.maxChange ≠ 0 ∧ e.maxChange < d.natAbs then (if d < 0 then -(e.maxChange : Int) else (e.maxChange : Int), true)
  else (d, false)

/-- A valid sample of an incremental quantity: value, remainder, and whether it was filtered (R26). -/
def convertIncremental (e : ConversionEntry) (q : Quantity) (c : Nat) : BitVec 32 × Nat × Bool :=
  match q.lastRaw with
  | none => (BitVec.ofInt 32 (scaled e c), 0, false)
  | some last =>
    let d := filteredDelta e (rawDelta e last c)
    let acc := d.1 * (e.numerator : Int) + (q.remainder : Int)
    let step := acc / (e.denominator : Int)
    (q.value + BitVec.ofInt 32 step, (acc - step * (e.denominator : Int)).toNat, d.2)

/-- A quantity after a valid sample, with the notices it raises (R24 to R26, R28). -/
def takeSample (i : Fin 16) (e : ConversionEntry) (q : Quantity) (c : Nat) : Quantity × List Notice :=
  let r : BitVec 32 × Nat × Bool :=
    if isIncremental i then convertIncremental e q c
    else
      let v := convertAbsolute (rangeTop i) e q c
      (BitVec.ofNat 32 v.1, q.remainder, v.2)
  let fault :=
    match faultNotice i with
    | some n => if r.1 = 2 ∧ (q.value ≠ 2 ∨ q.lost) then [n] else []
    | none => []
  ({ value := r.1, lost := false, fresh := true, age := 0, remainder := r.2.1, lastRaw := some c },
   (if r.2.2 then [.sampleFiltered] else []) ++ fault)

/-- A quantity aged by one, with the notice of its loss (R25, R27). -/
def ageQuantity (i : Fin 16) (e : ConversionEntry) (q : Quantity) : Quantity × List Notice :=
  let q := { q with age := saturate 65535 q.age 1 }
  if !q.lost && decide (e.staleLimit < q.age) then
    ({ q with lost := true, lastRaw := none }, (lossNotice i).toList)
  else (q, [])

/-- What an arrival makes of quantity `i` (R25). -/
def convertQuantity (s : State) (slots : List Byte) (i : Fin 16) : Quantity × List Notice :=
  let e := s.converter.entries[i]
  let q := quantity s i
  match (if e.enabled then decodedSample s slots e else none) with
  | some c => takeSample i e q c
  | none => ageQuantity i e q

/-- The state with all sixteen quantities as a conversion gives them, its notices raised in quantity order once all
stand (log entry 8). -/
def withQuantities (f : Fin 16 → Quantity × List Notice) (s : State) : State :=
  raiseAll ((List.finRange 16).flatMap fun i => (f i).2)
    (s.withConverter { s.converter with quantities := Vector.ofFn fun i => (f i).1 })

/-- The conversion of an arrival (R25). -/
def convertArrival (slots : List Byte) (s : State) : State := withQuantities (convertQuantity s slots) s

/-- A frame without samples ages every quantity by one (R5, R25). -/
def ageAll (s : State) : State :=
  withQuantities (fun i => ageQuantity i s.converter.entries[i] (quantity s i)) s

/-! ### Service requests -/

/-- The entry WRITE_CONVERSION gives, absent when it is refused with RANGE (R20). Fields of the other source kind are
stored as given and not checked (log entry 9). -/
def entryOf (a : ConversionArgs) : Option ConversionEntry :=
  match firstOfTwo a.enabled, sourceOf a.source, firstOfTwo a.signed, firstOfTwo a.gray with
  | some en, some src, some sg, some gr =>
    let e : ConversionEntry :=
      { enabled := en, source := src, slotOffset := a.slotOffset, validity := optValue a.validity, group := a.group,
        firstLine := a.firstLine, bitOffset := a.bitOffset, width := a.width, signed := sg, gray := gr,
        numerator := a.numerator, denominator := a.denominator, offset := a.offset, maxChange := a.maxChange,
        staleLimit := a.staleLimit }
    let common := within 1 32 a.width && within 1 65535 a.numerator && within 1 65535 a.denominator
      && decide (-2147483648 ≤ a.offset) && decide (a.offset ≤ 2147483647)
      && within 0 2147483647 a.maxChange && within 1 255 a.staleLimit && within 0 7 a.bitOffset
    let own :=
      match src with
      | .frame => within 0 1023 a.slotOffset && optWithin 0 1023 a.validity
          && decide (a.slotOffset + sourceBytes e ≤ 1024)
      | .lines => within 0 3 a.group && within 0 7 a.firstLine && decide (a.bitOffset = 0)
          && decide (a.group * 8 + a.firstLine + a.width ≤ 32)
    if common && own then some e else none
  | _, _, _, _ => none

/-- A quantity re-based by WRITE_CONVERSION (R20). -/
def rebased (q : Quantity) : Quantity :=
  { q with lost := true, fresh := false, age := 0, remainder := 0, lastRaw := none }

/-- WRITE_CONVERSION (R20). -/
def writeConversion (number : Nat) (args : ConversionArgs) (s : State) : State × Reply :=
  if s.gov.line ≠ .configure then refuse s .state
  else
    match index? 16 number, entryOf args with
    | some i, some e =>
      (s.withConverter { entries := s.converter.entries.set i e,
                         quantities := s.converter.quantities.set i (rebased (quantity s i)) }, okay [])
    | _, _ => refuse s .range

/-- The 16 bytes of READ_QUANTITY (R204). -/
def quantityPayload (i : Fin 16) (q : Quantity) : List Byte :=
  leBytes 1 i.val ++ leBytes 1 (bit q.lost + 2 * bit q.fresh + 4 * bit q.lastRaw.isSome) ++ leBytes 2 q.age
    ++ leBytes 4 q.value.toNat ++ leBytes 4 (q.lastRaw.getD 0)
    ++ leBytes 2 (if isIncremental i then q.remainder else 0) ++ leBytes 2 0

/-- READ_QUANTITY (R29): TAKE 0, PEEK 1. -/
def readQuantity (number mode : Nat) (s : State) : State × Reply :=
  match index? 16 number, firstOfTwo mode with
  | some i, some take =>
    let q := quantity s i
    (if take then
       s.withConverter { s.converter with quantities := s.converter.quantities.set i { q with fresh := false } }
     else s,
     okay (quantityPayload i q))
  | _, _ => refuse s .range

end Sys2Proof.Machine
end

