-- ==== Sys2Proof/Machine/FieldLines.lean ====
section
/-! DEFINITION. The field line block (02_quantities_and_field_lines.md sections 2.6 and 2.7): latching, the door test,
WRITE_LINE_SETUP, SET_LINES, READ_LINES, and the line-source checks at LEAVE_CONFIG. -/

namespace Sys2Proof.Machine

/-! ### Arrival work -/

/-- The latch of a group is held: its inhibit line's live value is active (R32). -/
def latchHeld (s : State) (g : Fin 4) : Bool :=
  match s.lines.groups[g].inhibit with
  | some n => lineLive s n
  | none => false

/-- The 32 bits `f 0 … f 31`. -/
def linesWhere (f : Fin 32 → Bool) : Lines := BitVec.ofNat 32 (digitsValue ((List.finRange 32).map f))

/-- Every group latches its live values unless its inhibit line is active (R32). -/
def latchLines (s : State) : State :=
  s.withLines
    { s.lines with
      latch := linesWhere fun n => if latchHeld s (groupOf n) then lineLatched s n else lineLive s n
      groups := Vector.ofFn fun g => { s.lines.groups[g] with held := latchHeld s g } }

/-- The door test of an arrival, made while a line carries TUNNEL_DOOR (R35). Without such a line the reading last made is
kept: the model's choice (log entry 37). A record that its DOOR_OPEN closes is measured with the positions before the
arrival's conversion: the model's choice (log entry 45). -/
def doorTest (s : State) : State :=
  match lineWith s .tunnelDoor with
  | none => s
  | some n =>
    let closed := linePresented s n
    let running := lineRunning s.gov.line
    let newlyOpen :=
      match s.lines.door with
      | some d => d.closed || !d.running
      | none => true
    raiseWhen (running && !closed && newlyOpen) .doorOpen
      (s.withLines { s.lines with door := some { closed := closed, running := running } })

/-! ### WRITE_LINE_SETUP -/

/-- The setup of one line that WRITE_LINE_SETUP gives; its manual value becomes inactive (R37). -/
def lineSetupOf (a : LineArgs) : Option LineSetup :=
  match firstOfTwo a.polarity, modeOf a.mode, functionOf a.function with
  | some nonInverting, some m, some f =>
    some { inverting := !nonInverting, mode := m, function := f, manual := false }
  | _, _, _ => none

/-- A function that at most one line may carry: every one but None and MANUAL (R34, R36). -/
def isExclusive (f : LineFunction) : Bool := decide (f ≠ .none) && decide (f ≠ .manual)

/-- The list holds no exclusive function twice. -/
def functionsDistinct : List LineFunction → Bool
  | [] => true
  | f :: rest => !(isExclusive f && rest.contains f) && functionsDistinct rest

/-- The lines of a list that decode, or absent when one does not. -/
def setupsOf : List LineArgs → Option (List LineSetup)
  | [] => some []
  | a :: rest =>
    match lineSetupOf a, setupsOf rest with
    | some l, some ls => some (l :: ls)
    | _, _ => none

/-- A function of the request is carried by a line of another group (R37). -/
def carriedElsewhere (s : State) (g : Fin 4) (f : LineFunction) : Bool :=
  isExclusive f && (List.finRange 32).any fun n => decide (groupOf n ≠ g) && decide (s.lines.lines[n].function = f)

/-- The inhibit line WRITE_LINE_SETUP gives, absent when it is out of range (R37). -/
def inhibitOf : OptArg → Option (Option (Fin 32))
  | .absent => some none
  | .present n => (index? 32 n).map some
  | .malformed _ => none

/-- The lines of the part with group `g` set up anew. -/
def replaceGroup (lines : Vector LineSetup 32) (g : Fin 4) (new : List LineSetup) : Vector LineSetup 32 :=
  Vector.ofFn fun n => if groupOf n = g then new.getD (n.val % 8) lines[n] else lines[n]

/-- WRITE_LINE_SETUP (R37): LOCKED 0, UNLOCKED 1. -/
def writeLineSetup (group : Nat) (args : GroupArgs) (s : State) : State × Reply :=
  if s.gov.line ≠ .configure then refuse s .state
  else
    match index? 4 group, firstOfTwo args.lock, inhibitOf args.inhibit, setupsOf args.lines.toList with
    | some g, some locked, some inhibit, some new =>
      if functionsDistinct (new.map LineSetup.function)
          && !((new.map LineSetup.function).any (carriedElsewhere s g)) then
        (s.withLines
          { s.lines with
            groups := s.lines.groups.set g { s.lines.groups[g] with locked := locked, inhibit := inhibit }
            lines := replaceGroup s.lines.lines g new }, okay [])
      else refuse s .range
    | _, _, _, _ => refuse s .range

/-! ### SET_LINES and READ_LINES -/

/-- The pairs of SET_LINES decoded: ACTIVE 0, INACTIVE 1; absent when a number is out of range (R38). -/
def manualPairs : List (Nat × Nat) → Option (List (Fin 32 × Bool))
  | [] => some []
  | p :: rest =>
    match index? 32 p.1, firstOfTwo p.2, manualPairs rest with
    | some n, some v, some ps => some ((n, v) :: ps)
    | _, _, _ => none

/-- No line number appears twice. -/
def linesDistinct : List (Fin 32 × Bool) → Bool
  | [] => true
  | p :: rest => !((rest.map Prod.fst).contains p.1) && linesDistinct rest

/-- A line SET_LINES may set: it carries MANUAL in an unlocked group (R38). -/
def isSettable (s : State) (n : Fin 32) : Bool :=
  decide (s.lines.lines[n].function = .manual) && !s.lines.groups[groupOf n].locked

/-- The lines with the named manual values set. -/
def setManuals : List (Fin 32 × Bool) → Vector LineSetup 32 → Vector LineSetup 32
  | [], v => v
  | p :: rest, v => setManuals rest (v.set p.1 { v[p.1] with manual := p.2 })

/-- SET_LINES (R38). -/
def setLines (pairs : List (Nat × Nat)) (s : State) : State × Reply :=
  if within 1 32 pairs.length then
    match manualPairs pairs with
    | none => refuse s .range
    | some ps =>
      if linesDistinct ps then
        if ps.all (fun p => isSettable s p.1) then
          (s.withLines { s.lines with lines := setManuals ps s.lines.lines }, okay [])
        else refuse s .isProtected
      else refuse s .range
  else refuse s .range

/-- The payload of READ_LINES (R39). -/
def linesPayload (s : State) : List Byte :=
  ((List.finRange 4).flatMap fun g =>
    let x := s.lines.groups[g]
    leBytes 1 (firstOfTwoCode x.locked) ++ optBytes 1 (x.inhibit.map Fin.val) ++ flagByte x.held)
  ++ ((List.finRange 32).flatMap fun n =>
    let x := s.lines.lines[n]
    leBytes 1 (functionCode x.function) ++ flagByte (lineDriven s n) ++ activeByte (lineLive s n)
      ++ activeByte (lineLatched s n) ++ activeByte x.manual)

/-- READ_LINES (R39). -/
def readLines (s : State) : State × Reply := (s, okay (linesPayload s))

/-! ### The line-source checks -/

/-- What is wrong with a line as a source of an entry, by its violation code (R40). -/
def lineSourceFault (s : State) (e : ConversionEntry) (n : Fin 32) : Option Nat :=
  let l := s.lines.lines[n]
  if l.function ≠ .none then some 10
  else
    match l.mode with
    | .live => some 11
    | .latched => if e.gray then some 12 else none
    | .grayLatched => if e.gray then none else some 12

/-- The first faulty line of an entry's run. -/
def runFault (s : State) (e : ConversionEntry) : List (Fin 32) → Option (Nat × Fin 32)
  | [] => none
  | n :: rest =>
    match lineSourceFault s e n with
    | some c => some (c, n)
    | none => runFault s e rest

/-- The first violation of the line-source checks among the given quantities (R40). -/
def lineSourceViolationIn (s : State) : List (Fin 16) → Option Violation
  | [] => none
  | q :: rest =>
    let e := s.converter.entries[q]
    match (if e.enabled ∧ e.source = .lines then runFault s e (runLines e) else none) with
    | some (c, n) => some (c, q.val, n.val)
    | none => lineSourceViolationIn s rest

/-- The line-source checks at LEAVE_CONFIG, in quantity order (R40). -/
def lineSourceViolation (s : State) : Option Violation := lineSourceViolationIn s (List.finRange 16)

end Sys2Proof.Machine
end

