-- ==== Sys2Proof/Machine/NoticeBlock.lean ====
section
/-! DEFINITION. The service requests of the notice block (11_notices.md sections 11.4 and 11.5). -/

namespace Sys2Proof.Machine

/-- The bytes of a route: enable (yes 0, no 1), class, group (R197; log entry 6). -/
def routeBytes (r : Route) : List Byte :=
  leBytes 1 (firstOfTwoCode r.enabled) ++ leBytes 1 (classCode r.cls) ++ leBytes 1 r.group.val

/-- The notice is fixed (R187). -/
def isFixed (i : Fin 40) : Bool := decide (i ∈ Notice.fixedIndices)

/-- WRITE_NOTICE_ROUTE (R190). -/
def writeNoticeRoute (number enable cls group : Nat) (s : State) : State × Reply :=
  match index? 40 number, firstOfTwo enable, classOf cls, index? 4 group with
  | some i, some en, some c, some g =>
    if isFixed i && (!en || decide (c ≠ .halt)) then refuse s .isProtected
    else
      (s.withNotices { s.notices with routes := s.notices.routes.set i { enabled := en, cls := c, group := g } },
       okay (routeBytes s.notices.routes[i] ++ flagByte (isPending s.notices i)))
  | _, _, _, _ => refuse s .range

/-- SET_REPORT_MASK (R191). -/
def setReportMask (selection : NoticeSet) (s : State) : State × Reply :=
  (s.withNotices { s.notices with mask := selection }, okay (noticeSetBytes s.notices.mask))

/-- CLEAR_NOTICES (R193). -/
def clearNotices (selection : NoticeSet) (s : State) : State × Reply :=
  let left := s.notices.pendingSet &&& ~~~selection
  (s.withNotices { s.notices with pendingSet := left },
   okay (noticeSetBytes (s.notices.pendingSet &&& selection) ++ noticeSetBytes left))

/-- The payload of READ_NOTICES (R194). -/
def noticesPayload (n : Notices) : List Byte :=
  noticeSetBytes n.pendingSet ++ noticeSetBytes n.mask
    ++ ((List.finRange 40).flatMap fun i => routeBytes n.routes[i] ++ flagByte (isFixed i))
    ++ optBytes 1 ((lowestPending n).map Fin.val) ++ leBytes 1 (pendingCount n)
    ++ ((List.finRange 4).flatMap fun g => flagByte (groupFlag n g))
    ++ flagByte (haltPending n) ++ flagByte (degradePending n)

/-- READ_NOTICES (R194). -/
def readNotices (s : State) : State × Reply := (s, okay (noticesPayload s.notices))

/-- RAISE_TEST (R195). -/
def raiseTest (s : State) : State × Reply :=
  let s := raiseNotice .test s
  (s, okay (flagByte (isPending s.notices 39)))

end Sys2Proof.Machine
end

