-- ==== Sys2Proof/Machine/Patterns.lean ====
section
/-! DEFINITION. The pattern store (03_patterns_and_fold_kinds.md): WRITE_FOLD_KIND, WRITE_PATTERN, READ_PATTERN and
DELETE_PATTERN, with the checks of R48 to R50. -/

namespace Sys2Proof.Machine

/-- Place `p` as its pattern number. -/
def patternNumber (p : Fin 48) : Nat := p.val + 1

/-- The pattern has a group of fold kind `k`. -/
def usesKind (p : Pattern) (k : Fin 16) : Bool := p.groups.any fun g => decide (g.kind = k.val)

/-- The violation of the take-up and totals checks for a pattern number against a fold kind table (R49). -/
def foldViolation (kinds : Vector FoldKind 16) (number leadIn leadOut : Nat) (groups : List FoldGroup) :
    Option Violation :=
  match takeUpFailure kinds groups with
  | some g => some (17, number, g)
  | none => if 600000 < (computeTotals kinds leadIn leadOut groups).output then some (18, number, 0) else none

/-! ### WRITE_FOLD_KIND -/

/-- The first present pattern that fails the checks of R49 under a new fold kind table (R43). -/
def kindViolation (s : State) (k : Fin 16) (kinds : Vector FoldKind 16) : List (Fin 48) → Option Violation
  | [] => none
  | p :: rest =>
    match patternAt s p with
    | some x =>
      if usesKind x k then
        match foldViolation kinds (patternNumber p) x.leadIn x.leadOut x.groups with
        | some v => some v
        | none => kindViolation s k kinds rest
      else kindViolation s k kinds rest
    | none => kindViolation s k kinds rest

/-- A place after WRITE_FOLD_KIND of kind `k` (R44). -/
def recomputed (k : Fin 16) (kinds : Vector FoldKind 16) (place : Option Pattern) : Option Pattern :=
  match place with
  | some x => if usesKind x k then some (withTotals kinds x) else some x
  | none => none

/-- A place whose totals or CLAMPED attribute changed (R43). -/
def totalsChanged (before after : Option Pattern) : Bool :=
  match before, after with
  | some a, some b => decide (a.totals ≠ b.totals) || decide (a.clamped ≠ b.clamped)
  | _, _ => false

/-- The CLAMPED attribute of a place. -/
def placeClamped : Option Pattern → Bool
  | some x => x.clamped
  | none => false

/-- WRITE_FOLD_KIND (R43, R44). -/
def writeFoldKind (kind multiplier limit actions : Nat) (s : State) : State × Reply :=
  if s.gov.line ≠ .configure ∧ s.gov.line ≠ .stopped then refuse s .state
  else
    match index? 16 kind, actionsOf actions with
    | some k, some a =>
      if within 0 4 multiplier && within 0 5000 limit then
        let old := s.store.kinds[k]
        let kinds := s.store.kinds.set k { multiplier := multiplier, limit := limit, actions := a }
        match kindViolation s k kinds (List.finRange 48) with
        | some v => refuse s .range v.1 v.2.1 v.2.2
        | none =>
          let places := Vector.ofFn fun p => recomputed k kinds s.store.places[p]
          let count := fun f => ((List.finRange 48).filter f).length
          let newly := (List.finRange 48).any fun p => !placeClamped s.store.places[p] && placeClamped places[p]
          (raiseWhen newly .patternClamped (s.withStore { kinds := kinds, places := places }),
           okay (leBytes 1 old.multiplier ++ leBytes 2 old.limit ++ leBytes 1 (actionsCode old.actions)
             ++ leBytes 1 (count fun p => totalsChanged s.store.places[p] places[p])
             ++ leBytes 1 (count fun p => placeClamped places[p])))
      else refuse s .range
    | _, _ => refuse s .range

/-! ### WRITE_PATTERN -/

/-- The range checks on the fields of a group, in payload order (section 3.2). -/
def groupChecks (g : FoldGroup) : List Bool :=
  [within 0 100000 g.flatLead, within 0 15 g.kind, within 1 250 g.count, within 200 10000 g.pitch,
   within 0 5000 g.startDepth, within 0 5000 g.endDepth]

/-- The range checks of R48, in payload order; a maximum dwell of 0 is absent. -/
def patternChecks (number : Nat) (a : PatternArgs) : List Bool :=
  [within 1 48 number, within 1000 200000 a.leadIn, within 0 200000 a.leadOut, within 10 600 a.minDwell,
   decide (a.maxDwell = 0) || within a.minDwell 6000 a.maxDwell, within 0 60000 a.tolerance, within 0 255 a.lotClass,
   within 1 12 a.groups.length] ++ a.groups.flatMap groupChecks

/-- FIELD with the operand position and, for a group field, the group position (R198; log entry 7). -/
def fieldViolation (fixed perGroup position : Nat) : Violation :=
  (1, position, if fixed < position then (position - fixed - 1) / perGroup else 0)

/-- The pattern WRITE_PATTERN stores (R50). -/
def patternOf (kinds : Vector FoldKind 16) (a : PatternArgs) : Pattern :=
  { leadIn := a.leadIn, leadOut := a.leadOut, groups := a.groups, minDwell := a.minDwell,
    maxDwell := if a.maxDwell = 0 then none else some a.maxDwell, tolerance := a.tolerance, lotClass := a.lotClass,
    totals := computeTotals kinds a.leadIn a.leadOut a.groups, clamped := isClamped kinds a.groups }

/-- The bytes of a pattern's totals and CLAMPED attribute. -/
def totalsBytes (p : Pattern) : List Byte :=
  leBytes 4 p.totals.input ++ leBytes 4 p.totals.output ++ leBytes 2 p.totals.folds ++ leBytes 2 p.totals.maxRatio
    ++ flagByte p.clamped

/-- WRITE_PATTERN (R48 to R50). -/
def writePattern (number : Nat) (args : PatternArgs) (s : State) : State × Reply :=
  match ordinal? 48 number, firstFailing (patternChecks number args) with
  | some p, none =>
    match foldViolation s.store.kinds number args.leadIn args.leadOut args.groups with
    | some v => refuse s .range v.1 v.2.1 v.2.2
    | none =>
      if (patternAt s p).isSome && patternInUse s p then refuse s .inUse
      else
        let x := patternOf s.store.kinds args
        (raiseWhen x.clamped .patternClamped
          (s.withStore { s.store with places := s.store.places.set p (some x) }), okay (totalsBytes x))
  | _, position =>
    let v := fieldViolation 8 6 (position.getD 1)
    refuse s .range v.1 v.2.1 v.2.2

/-! ### DELETE_PATTERN and READ_PATTERN -/

/-- DELETE_PATTERN (R52). -/
def deletePattern (number : Nat) (s : State) : State × Reply :=
  match ordinal? 48 number with
  | none => refuse s .range
  | some p =>
    if (patternAt s p).isNone then refuse s .absent
    else if patternInUse s p then refuse s .inUse
    else (s.withStore { s.store with places := s.store.places.set p none }, okay [])

/-- The bytes of a group entry (R197). -/
def groupBytes (g : FoldGroup) : List Byte :=
  leBytes 4 g.flatLead ++ leBytes 1 g.kind ++ leBytes 1 g.count ++ leBytes 2 g.pitch ++ leBytes 2 g.startDepth
    ++ leBytes 2 g.endDepth

/-- The payload of READ_PATTERN: the record in the payload order of WRITE_PATTERN, then totals, CLAMPED and the in-use
flag (R53). That the record takes this order, with its group count, is the model's choice (log entry 38). -/
def patternPayload (s : State) (p : Fin 48) (x : Pattern) : List Byte :=
  leBytes 1 (patternNumber p) ++ leBytes 4 x.leadIn ++ leBytes 4 x.leadOut ++ leBytes 2 x.minDwell
    ++ leBytes 2 (x.maxDwell.getD 0) ++ leBytes 2 x.tolerance ++ leBytes 1 x.lotClass ++ leBytes 1 x.groups.length
    ++ x.groups.flatMap groupBytes ++ totalsBytes x ++ flagByte (patternInUse s p)

/-- READ_PATTERN (R53). -/
def readPattern (number : Nat) (s : State) : State × Reply :=
  match ordinal? 48 number with
  | none => refuse s .range
  | some p =>
    match patternAt s p with
    | none => refuse s .absent
    | some x => (s, okay (patternPayload s p x))

end Sys2Proof.Machine
end

