-- ==== Sys2Proof/Machine/Sequencer.lean ====
section
/-! DEFINITION. The panel sequencer (05_order_runs_and_the_panel_sequencer.md): the closings of an arrival, the panel
decision with its outcome applied, and the sequencer's service requests. -/

namespace Sys2Proof.Machine

/-! ### The panel decision -/

/-- The outcome of a panel decision (R87, R88). -/
inductive DecisionOutcome where
  | panel
  | splice
  | gap (reason : GapReason)
  deriving DecidableEq, Repr

/-- The take of condition 2 (R81), with the notice it raises: when no run has a panel remaining, the head of the queue
becomes the current run. -/
def takeRun (s : State) : State × List Notice :=
  match liveRun s.seq, s.seq.queue with
  | none, r :: rest =>
    (s.withSeq { s.seq with queue := rest, current := some { run := r, remaining := r.count } },
     if rest.length = s.seq.lowThreshold then [.orderLow] else [])
  | _, _ => (s, [])

/-- The pattern of the panel a decision would open (R82). -/
def candidate (s : State) : Option Pattern := (liveRun s.seq).bind fun r => patternAt s r.pattern

/-- Every SET zone is IN_BAND (R87 condition 3). -/
def setZonesInBand (t : Tunnel) : Bool :=
  t.zones.toList.all fun z =>
    match z.fit with
    | some f => decide (f.role ≠ .set) || decide (z.state = .inBand)
    | none => true

/-- Condition 5 of the decision: the splice is not needed or under way, and the budget suffices (R87). -/
def budgetSuffices (s : State) (p : Pattern) : Bool :=
  decide (s.roll.splice ≠ .armed) && !spliceUnderWay s.roll.splice
    && decide (p.totals.input + (geometryOf s).spliceMargin ≤ s.roll.budget)

/-- The outcome when condition 5 fails, with the notice the controller raises (R88, R168). -/
def spliceOutcome : SpliceState → DecisionOutcome × List Notice
  | .ready | .armed | .matching | .paste | .clear => (.splice, [])
  | .standby => (.gap .rollWait, [.noReadyRoll])
  | .failed => (.gap .rollWait, [])

/-- Condition 6 of the decision: the command does not exceed the pattern's dwell limit (R87). -/
def speedAllows (s : State) (p : Pattern) : Bool :=
  match dwellLimit s.tunnel p.minDwell with
  | some v => decide (s.gov.command ≤ v)
  | none => true

/-- Conditions 3 to 7 for a pattern that has a panel remaining (R87). -/
def decideFor (s : State) (p : Pattern) : DecisionOutcome × List Notice :=
  if !setZonesInBand s.tunnel then (.gap .heatHold, [])
  else if s.track.free.length < 2 then (.gap .pool, [])
  else if !budgetSuffices s p then spliceOutcome s.roll.splice
  else if !speedAllows s p then (.gap .speedWait, [])
  else if s.seq.hold then (.gap .hold, [])
  else (.panel, [])

/-- The seven conditions in order (R87): the state after the take, the outcome, and the notices raised. -/
def panelDecision (s : State) : State × DecisionOutcome × List Notice :=
  if s.gov.line ≠ .run then (s, .gap .stop, [])
  else
    let t := takeRun s
    match candidate t.1 with
    | none => (t.1, .gap .drain, t.2)
    | some p =>
      let d := decideFor t.1 p
      (t.1, d.1, t.2 ++ d.2)

/-! ### Openings -/

/-- A count one lower. -/
def lessOne (c : CurrentRun) : CurrentRun := { c with remaining := c.remaining - 1 }

/-- The opening of a PANEL of the current run (R90), with the notice it raises. -/
def openPanel (s : State) : State × List Notice :=
  match s.seq.current, candidate s with
  | some c, some p =>
    let rec0 := { openedRecord s .panel with
      inLen := some p.totals.input, outLen := some p.totals.output, pattern := some c.run.pattern,
      lotTag := some c.run.lotTag, lotClass := some p.lotClass, serial := some s.seq.serial }
    let serial := s.seq.serial
    let s := allocate s rec0
    match s.seq.openRecord with
    | none => (s, [])
    | some i =>
      let s := s.withSeq { s.seq with
        current := some (lessOne c), serial := saturate counterMax serial 1, cursor := some 0,
        lastPanel := some (c.run.lotTag, serial) }
      let s := s.withFolds { s.folds with
        context := some { serial := serial, record := i, pattern := c.run.pattern, start := inStartOf rec0, offset := 0 } }
      (issueRequests s, if c.remaining = 1 ∧ s.seq.queue = [] then [.orderEmpty] else [])
  | _, _ => (s, [])

/-- The new roll's lot tag the controller reports (R168). -/
def newRollTag (r : RollChange) : Option Nat :=
  let n := if r.splice = .clear then spindleIn r .active else spindleIn r .loaded
  (n.bind fun x => (spindle r x).roll).map Roll.lotTag

/-- The controller enters MATCHING with a match count of 0 and its phase at a timestamp (R168). -/
def enterMatching (ts : Timestamp) (r : RollChange) : RollChange :=
  { r with splice := .matching, matchCount := 0, phase := some ts }

/-- The opening of a SPLICE record (R93); a READY or ARMED controller enters MATCHING (R88, R168). -/
def openSplice (ts : Timestamp) (s : State) : State :=
  let s := resetRatio (allocate s { openedRecord s .splice with newLotTag := newRollTag s.roll })
  if s.roll.splice = .ready ∨ s.roll.splice = .armed then s.withRoll (enterMatching ts s.roll) else s

/-- The outcome opens a new record of its kind (R89), with the notices of the opening. -/
def openOutcome (ts : Timestamp) (o : DecisionOutcome) (s : State) : State × List Notice :=
  match o with
  | .panel => openPanel s
  | .splice => (openSplice ts s, [])
  | .gap reason => (openGap reason s, [])

/-- The open GAP's reason is replaced (R89, R96). -/
def setGapReason (reason : GapReason) (s : State) : State :=
  match s.seq.openRecord with
  | some i => if (recordAt s i).kind = some .gap then updateRecord s i (fun r => { r with gapReason := some reason }) else s
  | none => s

/-- The outcome applied to an open GAP (R89). -/
def applyToGap (ts : Timestamp) (o : DecisionOutcome) (s : State) : State × List Notice :=
  match o with
  | .gap reason => (setGapReason reason s, [])
  | _ => openOutcome ts o (closeFlat s)

/-- POOL_LOW at a decision with outcome POOL, unless a POOL gap is already open (R89). -/
def poolNotice (before : Option GapReason) (o : DecisionOutcome) : List Notice :=
  if o = .gap .pool ∧ before ≠ some .pool then [.poolLow] else []

/-- A decision after a PANEL or SPLICE closed, and its outcome applied: the notices come with the state, to be raised
once the outcome stands (R85, R89, R126). -/
def decideAfterClosing (ts : Timestamp) (s : State) : State × List Notice :=
  let d := panelDecision s
  let r := openOutcome ts d.2.1 d.1
  (r.1, d.2.2 ++ poolNotice none d.2.1 ++ r.2)

/-- Notices raised one after another for as long as the line is in RUN: the first one that halts it is the last. -/
def raiseWhileRunning : List Notice → State → State
  | [], s => s
  | n :: rest, s => if s.gov.line = .run then raiseWhileRunning rest (raiseNotice n s) else s

/-- The outcome of a decision for an open GAP is applied, and then its notices are raised: POOL_LOW, and ORDER_EMPTY of
the opening (R81, R89). -/
def settleGap (ts : Timestamp) (o : DecisionOutcome) (s : State) : State :=
  let before := openGapReason s
  let r := applyToGap ts o s
  raiseAll (poolNotice before o ++ r.2) r.1

/-- A decision for an open GAP (R85, R87, R89). It follows no closing, so a HALT-class notice of a condition, ORDER_LOW
or NO_READY_ROLL, halts the line where it is raised (R126): the decision ends there and the GAP keeps its reason (R98).
Where within the decision each notice is raised is the model's choice (log entry 34). -/
def decideForGap (ts : Timestamp) (s : State) : State :=
  let d := panelDecision s
  let t := raiseWhileRunning d.2.2 d.1
  if t.gov.line = .run then settleGap ts d.2.1 t else t

/-! ### Closings of an arrival -/

/-- Some acting entry of the open panel has not joined the queue (R66). -/
def unplacedActing (s : State) : Bool :=
  match s.folds.context, s.seq.cursor with
  | some c, some n =>
    match patternAt s c.pattern with
    | some p => actingFrom s.store.kinds (n - inFlight s.folds) p.groups 1
    | none => false
  | _, _ => false

/-- The open PANEL `i` closes by position (R66, R91, R123, R172), with the notice it raises. -/
def closePanel (i : Fin 64) (s : State) : State × List Notice :=
  let late := unplacedActing s
  let s := updateRecord s i fun r =>
    { r with isOpen := false, marks := { r.marks with misfold := r.marks.misfold || late } }
  let s := noOpenRecord (closeAgainstJoint (dropContext s) i)
  let s := if s.gov.line = .stopping then s.withGov { s.gov with rampStarted := true } else s
  (s, if late then [.foldLate] else [])

/-- The splice state at which an open SPLICE record closes (R93). -/
def spliceOver (x : SpliceState) : Bool := decide (x = .standby) || decide (x = .ready) || decide (x = .failed)

/-- The sequencer's work on its open record: the closings by position and by splice state, and the decision
(R85, R91, R93). The notices it hands on are those of a closing and of the decision that follows it, which are raised
once that decision has applied its outcome (R126). -/
def sequencerOn (ts : Timestamp) (i : Fin 64) (s : State) : State × List Notice :=
  let r := recordAt s i
  match r.kind with
  | some .panel =>
    if lineRunning s.gov.line && reached (infeed s) (beyond (inStartOf r) (inLenOf r)) then
      let c := closePanel i s
      let d := decideAfterClosing ts c.1
      (d.1, c.2 ++ d.2)
    else (s, [])
  | some .gap =>
    if decide (s.gov.line = .run) && reached (infeed s) (beyond (inStartOf r) (geometryOf s).minGap) then
      (decideForGap ts s, [])
    else (s, [])
  | some .splice =>
    if lineRunning s.gov.line && spliceOver s.roll.splice then decideAfterClosing ts (closeFlat s) else (s, [])
  | none => (s, [])

/-- What the sequencer's work of an ACTIVE arrival with timestamp `ts` leaves, and the notices still to be raised once that
stands (R85, R126); no work with INFEED_POS LOST. -/
def sequencerOutcome (ts : Timestamp) (s : State) : State × List Notice :=
  if infeedLost s then (s, [])
  else
    match s.seq.openRecord with
    | none => (s, [])
    | some i => sequencerOn ts i s

/-- The sequencer's work of an ACTIVE arrival (R85). A HALT-class notice of a closing or of the decision that follows it
halts the line here, once the outcome is applied (R126); the governor is handed the splice state of the outcome
(`decidedSplice`): the model's choice (log entry 46). -/
def sequencerWork (ts : Timestamp) (s : State) : State :=
  let r := sequencerOutcome ts s
  raiseAll r.2 r.1

/-! ### Service requests -/

/-- APPEND_RUN (R79). -/
def appendRun (pattern count lotTag : Nat) (s : State) : State × Reply :=
  match ordinal? 48 pattern with
  | none => refuse s .range
  | some p =>
    if within 1 65535 count && within 0 65535 lotTag then
      if (patternAt s p).isNone then refuse s .absent
      else if 16 ≤ s.seq.queue.length then refuse s .full
      else
        (s.withSeq { s.seq with queue := s.seq.queue ++ [{ pattern := p, count := count, lotTag := lotTag }] },
         okay (leBytes 1 (s.seq.queue.length + 1)))
    else refuse s .range

/-- CANCEL_RUNS (R80). -/
def cancelRuns (s : State) : State × Reply :=
  (s.withSeq { s.seq with queue := [] }, okay (leBytes 1 s.seq.queue.length))

/-- HOLD_PANELS and RELEASE_PANELS set and clear the operator hold (R94). -/
def setHold (hold : Bool) (s : State) : State × Reply := (s.withSeq { s.seq with hold := hold }, okay [])

/-- SET_ORDER_LOW (R81). -/
def setOrderLow (threshold : Nat) (s : State) : State × Reply :=
  if within 0 15 threshold then (s.withSeq { s.seq with lowThreshold := threshold }, okay []) else refuse s .range

/-- The bytes of a run: pattern, panel count, lot tag. -/
def runBytes (r : Run) : List Byte :=
  leBytes 1 (patternNumber r.pattern) ++ leBytes 2 r.count ++ leBytes 2 r.lotTag

/-- The bytes of the current run: pattern, lot tag, panel count and remaining count, or absent (R99). -/
def currentBytes : Option CurrentRun → List Byte
  | none => leBytes 8 0
  | some c => leBytes 1 1 ++ leBytes 1 (patternNumber c.run.pattern) ++ leBytes 2 c.run.lotTag ++ leBytes 2 c.run.count
      ++ leBytes 2 c.remaining

/-- The payload of READ_ORDERS (R99). The gap reason is numbered from 0 in the order of R203 and section 6.1, STOP first,
and not in the order of the table of section 5.2: the model's choice (log entry 6). -/
def ordersPayload (s : State) : List Byte :=
  leBytes 1 (kindCode (openKind s)) ++ optBytes 1 (s.seq.openRecord.map Fin.val)
    ++ optBytes 1 ((openGapReason s).map fun r => gapReasonCode (some r) - 1) ++ flagByte s.seq.hold ++ leBytes 1 s.seq.lowThreshold
    ++ leBytes 4 s.seq.serial ++ currentBytes s.seq.current ++ leBytes 1 s.seq.queue.length
    ++ s.seq.queue.flatMap runBytes

/-- READ_ORDERS (R99). -/
def readOrders (s : State) : State × Reply := (s, okay (ordersPayload s))

end Sys2Proof.Machine
end

