-- ==== Sys2Proof/Machine/RollChange.lean ====
section
/-! DEFINITION. Roll change (09_roll_change.md): remaining length and budget, the splice states at an ACTIVE arrival, and
the controller's service requests. -/

namespace Sys2Proof.Machine

/-- The diameter quantity of a spindle (R160). -/
def diameterOf : SpindleName → Fin 16
  | .a => 2
  | .b => 3

/-- The speed quantity of a spindle (R160). -/
def speedOf : SpindleName → Fin 16
  | .a => 4
  | .b => 5

/-- The READY input of a spindle (R160). -/
def readyInput : SpindleName → LineFunction
  | .a => .readyA
  | .b => .readyB

/-! ### Remaining length and budget -/

/-- The remaining length of a roll at diameter `d` (R163). -/
def rollLength (d : Nat) (r : Roll) : Nat :=
  if d ≤ r.core then 0 else min ((d * d - r.core * r.core) * 3550 / (452 * r.thickness)) counterMax

/-- Dead reckoning from the reference (R164). -/
def deadReckoned (p : Position) (refLength : Nat) (refPosition : Position) : Nat :=
  refLength - (if reached p refPosition then distance p refPosition else 0)

/-- The remaining length of a spindle at an ACTIVE arrival (R163, R164). -/
def measuredSpindle (p : Position) (q : Quantity) (x : Spindle) : Spindle :=
  let x := { x with diameterLost := q.lost }
  if x.state = .active ∨ x.state = .loaded then
    match q.lost, x.roll with
    | false, some r =>
      let n := rollLength q.value.toNat r
      { x with remaining := some n, refLength := some n, refPosition := some p }
    | _, _ =>
      if x.state = .active ∧ q.lost then
        match x.refLength, x.refPosition with
        | some n, some at' => { x with remaining := some (deadReckoned p n at') }
        | _, _ => x
      else x
  else x

/-- Remaining lengths and budget of an ACTIVE arrival (R163 to R165). -/
def measureRolls (s : State) : State :=
  let r := { s.roll with
    spindleA := measuredSpindle (infeed s) (quantity s (diameterOf .a)) s.roll.spindleA
    spindleB := measuredSpindle (infeed s) (quantity s (diameterOf .b)) s.roll.spindleB }
  s.withRoll { r with budget := budgetOf r (geometryOf s).coreReserve }

/-- The ROLL_RUNOUT test (R165). -/
def runoutTest (s : State) : State :=
  raiseWhen (decide (s.gov.line = .run) && decide (s.roll.budget = 0)) .rollRunout s

/-- A STANDBY or READY controller always holds its resting state (R166). -/
def restIfIdle (r : RollChange) : RollChange :=
  if r.splice = .standby ∨ r.splice = .ready then { r with splice := restingState r } else r

/-- An EXPIRED spindle whose READY line reads inactive becomes EMPTY (R162); an EMPTY spindle holds nothing (R160). -/
def freeExpired (n : SpindleName) (s : State) : State :=
  let x := spindle s.roll n
  if x.state = .expired ∧ inputReads s (readyInput n) = false then
    s.withRoll (restIfIdle (setSpindle s.roll n { Spindle.reset with diameterLost := x.diameterLost }))
  else s

/-! ### Matching, pasting, clearing -/

/-- The LOADED spindle's speed matches the V_in formed at the previous ACTIVE arrival (R169). -/
def speedMatches (s : State) : Bool :=
  match spindleIn s.roll .loaded with
  | some n =>
    let q := quantity s (speedOf n)
    !q.lost && decide (q.value.toNat ≤ s.gov.vIn + s.roll.settings.tolerance)
      && decide (s.gov.vIn ≤ q.value.toNat + s.roll.settings.tolerance)
  | none => false

/-- The time since the phase timestamp exceeds a timeout in ms (R169, R170, R175). It is the arrival's timestamp minus the
phase timestamp modulo 2^32, and no sum of the capped intervals that R4 names for match and paste timeouts: the model's
choice (log entry 32). -/
def phaseExceeds (r : RollChange) (ts : Timestamp) (timeout : Nat) : Bool :=
  match r.phase with
  | some t => decide (timeout * 1000 < distance ts t)
  | none => false

/-- A failed match (R169). -/
def failMatch (s : State) : State :=
  let n := saturate 3 s.roll.attempts 1
  if n < 3 then
    raiseNotice .matchFail (s.withRoll { s.roll with attempts := n, matchCount := 0, splice := .armed })
  else
    raiseNotice .spliceFailed
      (raiseNotice .matchFail (s.withRoll { s.roll with attempts := n, matchCount := 0, splice := .failed }))

/-- Step 4 in MATCHING (R169). -/
def matchingWork (ts : Timestamp) (s : State) : State :=
  let n := if speedMatches s then s.roll.matchCount + 1 else 0
  if 10 ≤ n then s.withRoll { s.roll with matchCount := 10, splice := .paste, phase := some ts }
  else
    let s := s.withRoll { s.roll with matchCount := n }
    if phaseExceeds s.roll ts s.roll.settings.matchTimeout then failMatch s else s

/-- A joint span still pending at a confirmation is tested against the open PANEL and discarded (R170, R172). -/
def replaceSpan (s : State) : State :=
  let s :=
    match s.seq.openRecord with
    | some i => if panelOpen s then markSpliced s i else s
    | none => s
  s.withRoll { s.roll with span := none }

/-- The spindles at a confirmation: ACTIVE becomes EXPIRED, LOADED becomes ACTIVE with its reference moved (R170). -/
def swapped (p : Position) (x : Spindle) : Spindle :=
  match x.state with
  | .active => { x with state := .expired }
  | .loaded => { x with state := .active, refPosition := some p }
  | _ => x

/-- The paste confirmation (R170). -/
def confirmPaste (s : State) : State :=
  let s := replaceSpan s
  let g := geometryOf s
  let j0 := beyond (infeed s) g.paster
  let r := { s.roll with
    spindleA := swapped (infeed s) s.roll.spindleA, spindleB := swapped (infeed s) s.roll.spindleB,
    span := some { j0 := j0, j1 := beyond j0 g.spliceLength }, attempts := 0, splice := .clear }
  s.withRoll { r with budget := budgetOf r g.coreReserve }

/-- Step 4 in PASTE (R170). -/
def pasteWork (ts : Timestamp) (s : State) : State :=
  if inputReads s .pasterConfirm then confirmPaste s
  else if phaseExceeds s.roll ts s.roll.settings.pasteTimeout then
    raiseNotice .pasteFail (s.withRoll { s.roll with splice := .failed })
  else s

/-- INFEED_POS, not LOST, has reached J1 of the pending joint span (R171). -/
def jointReached (s : State) : Bool :=
  match s.roll.span with
  | some x => !infeedLost s && reached (infeed s) x.j1
  | none => false

/-- Step 4 in CLEAR (R171). -/
def clearWork (s : State) : State :=
  if jointReached s then
    raiseNotice .spliceDone
      (s.withRoll { s.roll with splice := restingState s.roll,
                                span := if panelOpen s then s.roll.span else none })
  else s

/-- Step 4 in ARMED: the retry with a SPLICE record open, in RUN or STOPPING (R168). -/
def armedWork (ts : Timestamp) (s : State) : State :=
  if openKind s = some .splice ∧ lineRunning s.gov.line then s.withRoll (enterMatching ts s.roll) else s

/-- Step 4: the work of the present splice state (R166). -/
def spliceWork (ts : Timestamp) (s : State) : State :=
  match s.roll.splice with
  | .matching => matchingWork ts s
  | .paste => pasteWork ts s
  | .clear => clearWork s
  | .armed => armedWork ts s
  | .standby | .ready | .failed => s

/-! ### The emergency and arming tests -/

/-- The remaining input of the open panel (R167). -/
def panelRemaining (s : State) (r : TrackRecord) : Nat :=
  let stop := beyond (inStartOf r) (inLenOf r)
  if reached (infeed s) stop then 0 else distance stop (infeed s)

/-- The next panel's input total, 0 when there is none (R167). -/
def nextInput (s : State) : Nat :=
  match (nextPattern s.seq).bind (patternAt s) with
  | some p => p.totals.input
  | none => 0

/-- The tests of R167 on the open PANEL. -/
def armingOn (ts : Timestamp) (r : TrackRecord) (s : State) : State :=
  let rest := panelRemaining s r
  let margin := (geometryOf s).spliceMargin
  if (s.roll.splice = .ready ∨ s.roll.splice = .armed) ∧ s.roll.budget < rest + margin then
    raiseNotice .emergencySplice (s.withRoll (enterMatching ts s.roll))
  else if s.roll.splice = .ready ∧ s.gov.line = .run ∧ s.roll.budget < rest + nextInput s + margin then
    raiseNotice .rollLow (s.withRoll { s.roll with splice := .armed })
  else s

/-- Step 5: the emergency and arming tests (R167). -/
def armingTests (ts : Timestamp) (s : State) : State :=
  match s.seq.openRecord with
  | some i =>
    if panelOpen s && !infeedLost s && lineRunning s.gov.line then armingOn ts (recordAt s i) s else s
  | none => s

/-- The PASTE field: the LOADED spindle and PASTE while the splice state is PASTE (R170). -/
def pasteField (s : State) : State :=
  s.withRoll { s.roll with paste := if s.roll.splice = .paste then spindleIn s.roll .loaded else none }

/-- The controller's work of an ACTIVE arrival, in the steps of R166. -/
def rollWork (ts : Timestamp) (s : State) : State :=
  let s := runoutTest (measureRolls (freeExpired .b (freeExpired .a s)))
  let before := s.roll.splice
  let s := spliceWork ts s
  pasteField (if s.roll.splice = before then armingTests ts s else s)

/-! ### Service requests -/

/-- LOAD_ROLL (R161). -/
def loadRoll (spindleNumber lotTag core thickness threaded : Nat) (s : State) : State × Reply :=
  match spindleOf spindleNumber, zeroOne threaded with
  | some n, some t =>
    if within 0 65535 lotTag && within 5000 20000 core && within 20 2000 thickness then
      let x := spindle s.roll n
      if x.state ≠ .empty then refuse s .state
      else if inputReads s (readyInput n) = false then refuse s .state
      else
        let st : SpindleState := if t ∧ spindleIn s.roll .active = none then .active else .loaded
        let r := setSpindle s.roll n
          { x with state := st, roll := some { lotTag := lotTag, core := core, thickness := thickness },
                   remaining := none, refLength := none, refPosition := none }
        let r := { r with attempts := 0 }
        let r := if r.splice = .standby ∨ r.splice = .ready ∨ r.splice = .failed then
            { r with splice := restingState r } else r
        (s.withRoll r, okay (leBytes 1 (spindleStateCode st)))
    else refuse s .range
  | _, _ => refuse s .range

/-- UNLOAD_ROLL is refused for a spindle in this state (R162). -/
def unloadRefused (s : State) (x : Spindle) : Bool :=
  match x.state with
  | .empty => true
  | .loaded => decide (s.roll.splice = .matching) || decide (s.roll.splice = .paste)
  | .active => !atRest s.gov || spliceUnderWay s.roll.splice
  | .expired => false

/-- UNLOAD_ROLL (R162). The budget is 0 while no spindle is ACTIVE (R165). -/
def unloadRoll (spindleNumber : Nat) (s : State) : State × Reply :=
  match spindleOf spindleNumber with
  | none => refuse s .range
  | some n =>
    let x := spindle s.roll n
    if unloadRefused s x then refuse s .state
    else
      let r := setSpindle s.roll n { Spindle.reset with diameterLost := x.diameterLost }
      let r := if r.splice = .standby ∨ r.splice = .ready ∨ r.splice = .armed then
          { r with splice := restingState r } else r
      let r := if spindleIn r .active = none then { r with budget := 0 } else r
      (s.withRoll r, okay [])

/-- SPLICE_CANCEL (R173). -/
def spliceCancel (s : State) : State × Reply :=
  if s.roll.splice = .armed ∨ s.roll.splice = .matching then (s.withRoll (settleSplice s.roll), okay [])
  else refuse s .state

/-- WRITE_SPLICE_SETTINGS (R175). -/
def writeSpliceSettings (tolerance matchTimeout pasteTimeout : Nat) (s : State) : State × Reply :=
  match firstFailing [within 0 100000 tolerance, within 100 60000 matchTimeout, within 100 60000 pasteTimeout] with
  | some n => refuse s .range 1 n
  | none =>
    (s.withRoll { s.roll with
      settings := { tolerance := tolerance, matchTimeout := matchTimeout, pasteTimeout := pasteTimeout } }, okay [])

/-- The bytes READ_ROLLS gives one spindle (R176). -/
def spindleBytes (x : Spindle) : List Byte :=
  leBytes 1 (spindleStateCode x.state) ++ optBytes 2 (x.roll.map Roll.lotTag) ++ optBytes 2 (x.roll.map Roll.core)
    ++ optBytes 2 (x.roll.map Roll.thickness) ++ optBytes 4 x.remaining ++ optBytes 4 x.refLength
    ++ optBytes 4 (x.refPosition.map BitVec.toNat) ++ flagByte x.diameterLost

/-- The payload of READ_ROLLS (R176). -/
def rollsPayload (r : RollChange) : List Byte :=
  spindleBytes r.spindleA ++ spindleBytes r.spindleB ++ leBytes 1 (spliceStateCode r.splice) ++ leBytes 4 r.budget
    ++ leBytes 1 r.attempts ++ leBytes 1 r.matchCount
    ++ optBytes 4 (r.span.map fun x => x.j0.toNat) ++ optBytes 4 (r.span.map fun x => x.j1.toNat)
    ++ leBytes 4 r.settings.tolerance ++ leBytes 2 r.settings.matchTimeout ++ leBytes 2 r.settings.pasteTimeout

/-- READ_ROLLS (R176). -/
def readRolls (s : State) : State × Reply := (s, okay (rollsPayload s.roll))

end Sys2Proof.Machine
end

