-- ==== Sys2Proof/Machine/Tunnel.lean ====
section
/-! DEFINITION. The steam tunnel (08_the_steam_tunnel.md): zone states, valve regulation, exposure, transits and dwell
checks, the zone checks at LEAVE_CONFIG, and the tunnel's service requests. -/

namespace Sys2Proof.Machine

/-- The quantity of a zone's temperature: number 7 + n for zone n (R140). -/
def zoneQuantity (z : Fin 6) : Fin 16 := ⟨z.val + 8, by omega⟩

/-- The state with zone `z` replaced. -/
def setZone (s : State) (z : Fin 6) (x : Zone) : State :=
  s.withTunnel { s.tunnel with zones := s.tunnel.zones.set z x }

/-! ### Zone states -/

/-- The crossing of R147 from IN_BAND, LOW or HIGH at temperature `t`: the state entered. -/
def zoneCrossing (z : Zone) (t : Nat) : Option ZoneState :=
  let low := decide ((t : Int) < (z.settings.bandLow : Int) - z.settings.hysteresis)
  let high := decide (z.settings.bandHigh + z.settings.hysteresis < t)
  if low && (decide (z.state = .inBand) || decide (z.state = .high)) then some .low
  else if high && (decide (z.state = .inBand) || decide (z.state = .low)) then some .high
  else none

/-- The settling of R146 in WARMING, LOW or HIGH at temperature `t`. -/
def zoneSettling (z : Zone) (t : Nat) : Zone :=
  if z.settings.bandLow ≤ t ∧ t ≤ z.settings.bandHigh then
    if z.settings.settleCount ≤ z.progress + 1 then { z with state := .inBand, progress := 0 }
    else { z with progress := z.progress + 1 }
  else { z with progress := 0 }

/-- The notice of a zone's entry into LOW or HIGH (R147). -/
def crossingNotice : ZoneState → List Notice
  | .low => [.zoneLow]
  | .high => [.zoneHigh]
  | _ => []

/-- The update of a zone that is neither OFF nor LOST (R146, R147). -/
def zoneUpdateInBand (z : Zone) (t : Nat) : Zone × List Notice :=
  match zoneCrossing z t with
  | some st => ({ z with state := st, progress := 0 }, crossingNotice st)
  | none => (if z.state = .inBand then z else zoneSettling z t, [])

/-- The update of a zone at an ACTIVE arrival (R145). -/
def zoneUpdate (z : Zone) (q : Quantity) : Zone × List Notice :=
  if z.state = .off then (z, [])
  else if q.lost then ({ z with state := .lost, progress := 0 }, [])
  else if z.state = .lost then zoneUpdateInBand { z with state := .warming, progress := 0 } q.value.toNat
  else zoneUpdateInBand z q.value.toNat

/-- The zone updates of an arrival, in zone order (R145). -/
def updateZones : List (Fin 6) → State → State
  | [], s => s
  | z :: rest, s =>
    let r := zoneUpdate s.tunnel.zones[z] (quantity s (zoneQuantity z))
    updateZones rest (raiseAll r.2 (setZone s z r.1))

/-! ### Valve regulation -/

/-- The pressure test of an arrival (R149). -/
def pressureTest (s : State) : State :=
  let q := quantity s 7
  let below := decide (q.value.toNat < s.tunnel.pressureMin)
  let low := !q.lost && below
  let was := s.tunnel.pressureLow
  raiseWhen (low && !was) .steamPressureLow
    (s.withTunnel { s.tunnel with pressureLow := low, pressureHold := q.lost || below })

/-- PI regulation at temperature `t` (R150). At the first ACTIVE arrival after RESET RUN the opening takes the bias and the
proportional term alone, and the error goes into the integrator all the same (R159); that R159 is taken before R150 there is
the model's choice (log entry 43). -/
def regulate (restarted : Bool) (z : Zone) (t : Nat) : Zone :=
  let e : Int := (z.settings.setPoint : Int) - t
  let integ := clampInt 0 256000 ((z.integrator : Int) + z.settings.ki * e)
  let term := if restarted then 0 else integ / 256
  let opening := clampInt 0 1000 ((z.settings.bias : Int) + ((z.settings.kp : Int) * e).tdiv 16 + term)
  { z with integrator := integ.toNat, opening := opening.toNat }

/-- The valve of a zone at an ACTIVE arrival: the first case of section 8.3 that applies (R148 to R150). -/
def valveOf (restarted doorOpen hold : Bool) (t : Nat) (z : Zone) : Zone :=
  if z.state = .off then { z with opening := 0 }
  else if doorOpen then { z with opening := 0 }
  else if hold then z
  else if z.state = .lost then { z with opening := z.settings.fallback }
  else regulate restarted z t

/-- Valve regulation of an ACTIVE arrival (section 8.3), which is then no longer to come after a RESET RUN (R159). -/
def regulateValves (s : State) : State :=
  let door := doorReadsOpen s
  s.withTunnel
    { s.tunnel with
      doorOpen := door
      restarted := false
      zones := Vector.ofFn fun z =>
        valveOf s.tunnel.restarted door s.tunnel.pressureHold (quantityNat s (zoneQuantity z)) s.tunnel.zones[z] }

/-- The tunnel's zones, pressure and valves at an ACTIVE arrival (R145 to R151). -/
def tunnelRegulation (s : State) : State := regulateValves (pressureTest (updateZones (List.finRange 6) s))

/-! ### Exposure and transits -/

/-- A record with the given edges overlaps a zone (R152). -/
def overlapsZone (lead trail : Position) (f : ZoneFit) : Bool :=
  edgeReached lead f.spanStart && decide (lead ≠ BitVec.ofNat 32 f.spanStart) && !edgeReached trail f.spanEnd

/-- The record overlaps a SET zone that is not IN_BAND (R152). -/
def exposed (t : Tunnel) (lead trail : Position) : Bool :=
  t.zones.toList.any fun z =>
    match z.fit with
    | some f => decide (f.role = .set) && decide (z.state ≠ .inBand) && overlapsZone lead trail f
    | none => false

/-- The off-band tolerance of a record's pattern, for a PANEL (R154). -/
def toleranceOf (s : State) (r : TrackRecord) : Option Nat :=
  if r.kind = some .panel then (r.pattern.bind (patternAt s)).map Pattern.tolerance else none

/-- An interval added to a record's exposure (R152), with the test for UNDERSET (R154). -/
def addExposure (interval : Nat) (i : Fin 64) (s : State) : State :=
  let r := recordAt s i
  let sum := interval + s.tunnel.residues[i]
  let off := saturate 65535 r.offBand (sum / 1000)
  let exceeds :=
    match toleranceOf s r with
    | some tol => decide (tol < off) && !r.marks.underset
    | none => false
  let s := s.withTunnel { s.tunnel with residues := s.tunnel.residues.set i (sum % 1000) }
  let s := setRecord s i { r with offBand := off, marks := { r.marks with underset := r.marks.underset || exceeds } }
  raiseWhen exceeds .panelUnderset s

/-- Exposure for one record in TUNNEL (R152 to R154). -/
def accountRecord (interval : Nat) (i : Fin 64) (s : State) : State :=
  let r := recordAt s i
  if exposed s.tunnel (leadEdge (belt s) r) (trailEdge (belt s) r) then addExposure interval i s else s

/-- Exposure for the records of a list, in list order. -/
def accountAll (interval : Nat) : List (Fin 64) → State → State
  | [], s => s
  | i :: rest, s => accountAll interval rest (accountRecord interval i s)

/-- Exposure of an ACTIVE arrival; none with BELT_POS LOST (R152, R153). -/
def tunnelAccounting (interval : Nat) (s : State) : State :=
  if beltLost s then s else accountAll interval s.track.tunnel s

/-- A stamp taken at the first arrival at which its condition holds (R155). -/
def stamp (holds : Bool) (ts : Timestamp) (old : Option Timestamp) : Option Timestamp :=
  if old.isNone && holds then some ts else old

/-- The transit stamps of a record at an arrival (R155). -/
def stampTransits (sect : Nat × Nat) (ts : Timestamp) (lead trail : Position) (t : Transits) : Transits :=
  { leadEntry := stamp (edgeReached lead sect.1) ts t.leadEntry
    leadExit := stamp (edgeReached lead sect.2) ts t.leadExit
    trailEntry := stamp (edgeReached trail sect.1) ts t.trailEntry
    trailExit := stamp (edgeReached trail sect.2) ts t.trailExit }

/-- The transit stamps of record `i` at an arrival, while the SET section is present (R155). -/
def stampRecord (ts : Timestamp) (i : Fin 64) (s : State) : State :=
  match setSection s.tunnel with
  | some sect =>
    updateRecord s i fun r =>
      { r with transits := stampTransits sect ts (leadEdge (belt s) r) (trailEdge (belt s) r) r.transits }
  | none => s

/-- The transit stamps of the records of a list. -/
def stampAll (ts : Timestamp) : List (Fin 64) → State → State
  | [], s => s
  | i :: rest, s => stampAll ts rest (stampRecord ts i s)

/-- The transit stamps of an ACTIVE arrival; none with BELT_POS LOST (R155). They are taken when the open record can no
longer close before the exit moves, so that a record which leaves carries its trail stamps. -/
def transitWork (ts : Timestamp) (s : State) : State := if beltLost s then s else stampAll ts s.track.tunnel s

/-! ### Dwell checks -/

/-- A transit: exit stamp minus entry stamp, present when both are (R156). -/
def transit (start stop : Option Timestamp) : Option Nat :=
  match start, stop with
  | some a, some b => some (distance b a)
  | _, _ => none

/-- The present transits of a record (R156). -/
def presentTransits (t : Transits) : List Nat :=
  (transit t.leadEntry t.leadExit).toList ++ (transit t.trailEntry t.trailExit).toList

/-- The dwell checks on a PANEL against its pattern: SHORT_DWELL and OVERDWELL (R156). -/
def dwellFindings (p : Pattern) (t : Transits) : Bool × Bool :=
  ((presentTransits t).any fun n => decide (n < p.minDwell * 100000),
   match p.maxDwell with
   | some m => (presentTransits t).any fun n => decide (m * 100000 < n)
   | none => false)

/-- The dwell checks at the exit move of record `i` (R113 step 1, R156). -/
def dwellChecks (i : Fin 64) (s : State) : State :=
  let r := recordAt s i
  if r.kind = some .panel then
    match r.pattern.bind (patternAt s) with
    | some p =>
      let d := dwellFindings p r.transits
      let s := setRecord s i
        { r with marks := { r.marks with shortDwell := r.marks.shortDwell || d.1, overdwell := r.marks.overdwell || d.2 } }
      raiseWhen d.2 .panelOverdwell (raiseWhen d.1 .panelShortDwell s)
    | none => s
  else s

/-! ### The zone checks at LEAVE_CONFIG -/

/-- The fitted zones with their numbers, in zone order. -/
def fittedZones (t : Tunnel) : List (Nat × ZoneFit) :=
  (List.finRange 6).filterMap fun z => (t.zones[z].fit).map fun f => (z.val + 1, f)

/-- The first fitted zone that leaves the tunnel (R142 check 1). -/
def zoneOutside (g : Geometry) (zs : List (Nat × ZoneFit)) : Option Nat :=
  (zs.find? fun z => decide (z.2.spanStart < g.entry) || decide (g.exit < z.2.spanEnd)).map Prod.fst

/-- Two zones share a belt distance. -/
def zonesShare (a b : ZoneFit) : Bool := decide (a.spanStart < b.spanEnd) && decide (b.spanStart < a.spanEnd)

/-- The first zone that shares a belt distance with a lower-numbered one (R142 check 2). -/
def zoneOverlapping (zs : List (Nat × ZoneFit)) : Option Nat :=
  (zs.find? fun z => zs.any fun y => decide (y.1 < z.1) && zonesShare y.2 z.2).map Prod.fst

/-- A zone put into a list ordered by span start. -/
def insertByStart (z : Nat × ZoneFit) : List (Nat × ZoneFit) → List (Nat × ZoneFit)
  | [] => [z]
  | y :: rest => if z.2.spanStart ≤ y.2.spanStart then z :: y :: rest else y :: insertByStart z rest

/-- The zones in order of span start. -/
def sortByStart : List (Nat × ZoneFit) → List (Nat × ZoneFit)
  | [] => []
  | z :: rest => insertByStart z (sortByStart rest)

/-- The first zone of a list that does not begin at the span end of the one before (R142 check 3). That the zone after the
gap is the one named is the model's choice (log entry 41). -/
def firstBreak : List (Nat × ZoneFit) → Option Nat
  | a :: b :: rest => if b.2.spanStart = a.2.spanEnd then firstBreak (b :: rest) else some b.1
  | _ => none

/-- The zone checks at LEAVE_CONFIG, in order (R142). -/
def zoneViolation (g : Geometry) (t : Tunnel) : Option Violation :=
  let zs := fittedZones t
  match zoneOutside g zs with
  | some n => some (13, n, 0)
  | none =>
    match zoneOverlapping zs with
    | some n => some (14, n, 0)
    | none =>
      match firstBreak (sortByStart (zs.filter fun z => decide (z.2.role = .set))) with
      | some n => some (15, n, 0)
      | none => none

/-! ### Service requests -/

/-- The role and span of a WRITE_ZONE, absent when they do not go together (R141). -/
def zoneFitOf (a : ZoneArgs) : Option (Option ZoneFit) :=
  match a.role, a.spanStart, a.spanEnd with
  | .absent, .absent, .absent => some none
  | .present r, .present x, .present y =>
    match roleOf r with
    | some role => some (some { role := role, spanStart := x, spanEnd := y })
    | none => none
  | _, _, _ => none

/-- An optional operand is present. -/
def isPresent : OptArg → Bool
  | .present _ => true
  | _ => false

/-- The checks of WRITE_ZONE on its operands in payload order (R141 check 1): each field's range, and each
relation between fields at the field it is said of. A span start present or absent against the role counts at the span start
(operand 3), else a span end against the span start at the span end (operand 4). Where a relation counts is the model's
choice (log entry 7). -/
def zoneChecks (zone : Nat) (a : ZoneArgs) : List Bool :=
  [within 1 6 zone,
   optWithin 0 2 a.role,
   optWithin 0 10000000 a.spanStart && decide (isPresent a.spanStart = isPresent a.role),
   optWithin 0 10000000 a.spanEnd && decide (isPresent a.spanEnd = isPresent a.spanStart)
     && (match optValue a.spanStart, optValue a.spanEnd with
         | some x, some y => decide (x < y)
         | _, _ => true),
   within 0 2500 a.setPoint && within a.bandLow a.bandHigh a.setPoint,
   within 0 2500 a.bandLow && decide (a.bandLow ≤ a.bandHigh),
   within 0 2500 a.bandHigh, within 0 500 a.hysteresis, within 1 255 a.settleCount, within 0 4095 a.kp, within 0 4095 a.ki, within 0 1000 a.bias,
   within 0 1000 a.fallback]

/-- The settings WRITE_ZONE gives a zone. -/
def zoneSettingsOf (a : ZoneArgs) : ZoneSettings :=
  { setPoint := a.setPoint, bandLow := a.bandLow, bandHigh := a.bandHigh, hysteresis := a.hysteresis,
    settleCount := a.settleCount, kp := a.kp, ki := a.ki, bias := a.bias, fallback := a.fallback }

/-- A zone after an accepted WRITE_ZONE (R141): one made unfitted goes OFF with an opening of 0. -/
def writtenZone (fit : Option ZoneFit) (a : ZoneArgs) (z : Zone) : Zone :=
  let z := { z with fit := fit, settings := zoneSettingsOf a }
  if fit.isNone then { z with state := .off, opening := 0 } else z

/-- WRITE_ZONE (R141). -/
def writeZone (zone : Nat) (args : ZoneArgs) (s : State) : State × Reply :=
  match ordinal? 6 zone, firstFailing (zoneChecks zone args), zoneFitOf args with
  | some z, none, some fit =>
    if s.gov.line ≠ .configure ∧ fit ≠ s.tunnel.zones[z].fit then refuse s .state
    else (setZone s z (writtenZone fit args s.tunnel.zones[z]), okay [])
  | _, position, _ => refuse s .range 1 (position.getD 1)

/-- A zone switched ON (R144). -/
def zoneOn (z : Zone) : Zone := if z.state = .off then { z with state := .warming, progress := 0, integrator := 0 } else z

/-- A zone switched OFF (R144). -/
def zoneOff (z : Zone) : Zone := { z with state := .off, progress := 0, opening := 0 }

/-- ZONE_ENABLE (R144): ON 0, OFF 1. -/
def zoneEnable (zone switch : Nat) (s : State) : State × Reply :=
  match ordinal? 6 zone, firstOfTwo switch with
  | some z, some on =>
    if s.tunnel.zones[z].fit.isNone then refuse s .absent
    else (setZone s z (if on then zoneOn s.tunnel.zones[z] else zoneOff s.tunnel.zones[z]), okay [])
  | _, _ => refuse s .range

/-- SET_PRESSURE_MIN (R149). -/
def setPressureMin (minimum : Nat) (s : State) : State × Reply :=
  if within 0 1000 minimum then (s.withTunnel { s.tunnel with pressureMin := minimum }, okay []) else refuse s .range

/-- The bytes READ_ZONES gives one zone (R158). -/
def zoneBytes (s : State) (z : Fin 6) : List Byte :=
  let x := s.tunnel.zones[z]
  let q := quantity s (zoneQuantity z)
  optBytes 1 (x.fit.map fun f => roleCode f.role) ++ optBytes 4 (x.fit.map ZoneFit.spanStart)
    ++ optBytes 4 (x.fit.map ZoneFit.spanEnd) ++ leBytes 1 (zoneStateCode x.state) ++ leBytes 1 x.progress
    ++ leBytes 4 x.integrator ++ leBytes 2 x.opening ++ leBytes 2 q.value.toNat ++ flagByte q.lost

/-- The payload of READ_ZONES (R158). -/
def zonesPayload (s : State) : List Byte :=
  ((List.finRange 6).flatMap (zoneBytes s))
    ++ leBytes 2 s.tunnel.pressureMin ++ flagByte s.tunnel.pressureLow ++ flagByte s.tunnel.pressureHold
    ++ flagByte s.tunnel.doorOpen
    ++ optBytes 4 ((setSection s.tunnel).map Prod.fst) ++ optBytes 4 ((setSection s.tunnel).map Prod.snd)
    ++ optBytes 4 ((setSection s.tunnel).map fun x => x.2 - x.1)

/-- READ_ZONES (R158). -/
def readZones (s : State) : State × Reply := (s, okay (zonesPayload s))

end Sys2Proof.Machine
end

