-- ==== Sys2Proof/Machine/Supervisor.lean ====
section
/-! DEFINITION. The line supervisor and governor (07_line_supervision_and_speed.md): the transitions of an arrival, the
target and the ramp, infeed and spindle speeds, and the supervisor's service requests. -/

namespace Sys2Proof.Machine

/-! ### Transitions of an arrival -/

/-- A PANEL record stands in RUNOUT, TUNNEL or EXIT. -/
def panelOnBelt (s : State) : Bool :=
  (s.track.runout ++ s.track.tunnel ++ s.track.exit).any fun i => decide ((recordAt s i).kind = some .panel)

/-- The drain or the roll wait test holds (R124). -/
def drainOrRollWait (s : State) : Bool :=
  decide (openGapReason s = some .rollWait) || (decide (openGapReason s = some .drain) && !panelOnBelt s)

/-- The drain and roll wait tests of an ACTIVE arrival (R124). -/
def drainTests (s : State) : State :=
  if decide (s.gov.line = .run) && drainOrRollWait s then
    s.withGov { s.gov with line := .stopping, rampStarted := true }
  else s

/-- The entry into STOPPED from STOPPING (R125, R97, R174). -/
def enterStopped (s : State) : State :=
  let s := closeFlat s
  let s := s.withGov { s.gov with line := .stopped, rampStarted := false }
  raiseNotice .lineStopped (s.withRoll (settleSplice s.roll))

/-- The stop test after the governor's step of an ACTIVE arrival (R125). -/
def stopTest (s : State) : State :=
  if s.gov.line = .stopping ∧ s.gov.rampStarted = true ∧ s.gov.command = 0 then enterStopped s else s

/-- The first LISTEN arrival in HALTED with a command above 0 (R127). -/
def listenStop (s : State) : State :=
  if s.gov.line = .halted ∧ s.gov.command ≠ 0 then
    closeHalted (s.withGov { s.gov with command := 0, vIn := 0, spindleA := 0, spindleB := 0 })
  else s

/-! ### The target -/

/-- The patterns of the PANEL records in RUNOUT or TUNNEL whose trail edge has not reached `send` (R132). -/
def travellingPatterns (s : State) (send : Nat) : List Pattern :=
  (s.track.runout ++ s.track.tunnel).filterMap fun i =>
    let r := recordAt s i
    if r.kind = some .panel ∧ edgeReached (trailEdge (belt s) r) send = false then r.pattern.bind (patternAt s)
    else none

/-- The next panel's pattern (R82). -/
def upcomingPattern (s : State) : Option Pattern := (nextPattern s.seq).bind (patternAt s)

/-- The open panel's pattern. -/
def openPattern (s : State) : Option Pattern :=
  match s.seq.openRecord with
  | some i => if panelOpen s then (recordAt s i).pattern.bind (patternAt s) else none
  | none => none

/-- The dwell limit in force (R132). -/
def dwellLimitInForce (s : State) : Option Nat :=
  match setSection s.tunnel with
  | none => none
  | some sect =>
    match (travellingPatterns s sect.2 ++ (upcomingPattern s).toList).map Pattern.minDwell with
    | [] => none
    | t :: rest => dwellLimit s.tunnel (rest.foldl max t)

/-- The larger of the maximum ratios of the open and next panels' patterns, 4096 with neither (R133). -/
def steepestRatio (s : State) : Nat :=
  match openPattern s, upcomingPattern s with
  | some a, some b => max a.totals.maxRatio b.totals.maxRatio
  | some a, none => a.totals.maxRatio
  | none, some b => b.totals.maxRatio
  | none, none => 4096

/-- The feed limit (R133). -/
def feedLimit (s : State) : Nat := s.gov.settings.vInMax * 4096 / steepestRatio s

/-- The limits in force, in table order, after SET (section 7.3). -/
def otherLimits (s : State) : List (TargetSource × Nat) :=
  ((dwellLimitInForce s).map fun v => (TargetSource.dwell, v)).toList
    ++ [(.feed, feedLimit s)]
    ++ (if spliceUnderWay s.roll.splice then [(.splice, s.gov.settings.spliceLimit)] else [])
    ++ (if degradePending s.notices then [(.degrade, s.gov.settings.degradeLimit)] else [])

/-- The least limit, and the first that equals it (R131). -/
def leastLimit : TargetSource × Nat → List (TargetSource × Nat) → TargetSource × Nat
  | best, [] => best
  | best, l :: rest => leastLimit (if l.2 < best.2 then l else best) rest

/-- The line composes its target from the limits: RUN, or STOPPING with the flag clear (R131). -/
def composesLimits (g : Governor) : Bool :=
  decide (g.line = .run) || (decide (g.line = .stopping) && !g.rampStarted)

/-- The composition in RUN, or in STOPPING before the ramp starts, with the limiting conditions and their notices
(R131, R134). -/
def composeLimits (s : State) : State :=
  let best := leastLimit (.set, s.gov.vSet) (otherLimits s)
  let dwell := decide (dwellLimitInForce s = some best.2) && decide (best.2 < s.gov.vSet)
  let feed := decide (feedLimit s = best.2) && decide (best.2 < s.gov.vSet)
  let notices := (if dwell && !s.gov.dwellLimiting then [Notice.dwellLimiting] else [])
    ++ (if feed && !s.gov.feedLimiting then [Notice.feedLimiting] else [])
  raiseAll notices
    (s.withGov { s.gov with target := best.2, source := best.1, dwellLimiting := dwell, feedLimiting := feed })

/-- The source of a target of 0 outside RUN (R131). -/
def restSource : LineState → TargetSource
  | .stopping => .stop
  | .halted => .halt
  | .run | .stopped | .configure => .none

/-- The composition of the target at an ACTIVE arrival (R131, R134). -/
def compose (s : State) : State :=
  if composesLimits s.gov then composeLimits s
  else s.withGov { s.gov with target := 0, source := restSource s.gov.line, dwellLimiting := false,
                              feedLimiting := false }

/-! ### The ramp and the derived speeds -/

/-- The speed command one step toward the target (R135). -/
def ramped (g : Governor) : Nat :=
  if g.command < g.target then min (min (g.command + g.settings.aUp) g.target) g.settings.vMax
  else max (g.command - (if g.line = .halted then g.settings.aHalt else g.settings.aDown)) g.target

/-- The ramp step of an ACTIVE arrival; the step that brings the command to 0 in HALTED closes the open record
(R135, R98). -/
def rampStep (s : State) : State := settleHalted (s.withGov { s.gov with command := ramped s.gov })

/-- The dancer trim (R136 step 2). -/
def dancerTrim (g : Governor) (dancer : Quantity) : Int :=
  if dancer.lost || decide (g.command = 0) then 0
  else
    clampInt (-(g.settings.trimLimit : Int)) g.settings.trimLimit
      (((g.settings.kp : Int) * ((dancer.value.toNat : Int) - g.settings.dancerSet)).tdiv 16)

/-- The infeed speed under a trim (R136 steps 1 and 3). -/
def infeedSpeed (g : Governor) (ratio : Nat) (trim : Int) : Nat :=
  (clampInt 0 g.settings.vInMax (((g.command * ratio + 2048) / 4096 : Nat) + trim)).toNat

/-- The trim-at-limit count after a trim (R136). -/
def trimCountAfter (g : Governor) (trim : Int) : Nat :=
  if 0 < g.settings.trimLimit ∧ trim.natAbs = g.settings.trimLimit then saturate 50 g.trimCount 1 else 0

/-- The infeed speed and the trim-at-limit count of an ACTIVE arrival (R136). `ratio` is the ratio in force as the passing
of that arrival left it (R69, R76), also where a GAP or SPLICE has opened or the line has halted since (log entry 33). -/
def infeedStep (ratio : Nat) (s : State) : State :=
  let trim := dancerTrim s.gov (quantity s 6)
  let n := trimCountAfter s.gov trim
  raiseWhen (decide (n = 50) && decide (s.gov.trimCount ≠ 50)) .dancerLimit
    (s.withGov { s.gov with vIn := infeedSpeed s.gov ratio trim, trimCount := n })

/-- The speed of a spindle under a splice state (R137). -/
def spindleSpeed (splice : SpliceState) (vIn : Nat) (x : Spindle) : Nat :=
  match x.state with
  | .active => vIn
  | .loaded => if splice = .matching ∨ splice = .paste then vIn else 0
  | .empty | .expired => 0

/-- The spindle speeds of an ACTIVE arrival (R137). `splice` is the splice state as the panel decision of that arrival left it
(R137, R166), also where a notice has taken MATCHING to ARMED since (R174, log entry 42). -/
def spindleStep (splice : SpliceState) (s : State) : State :=
  s.withGov { s.gov with spindleA := spindleSpeed splice s.gov.vIn s.roll.spindleA,
                         spindleB := spindleSpeed splice s.gov.vIn s.roll.spindleB }

/-- The governor's step of an ACTIVE arrival whose passing left `ratio` and whose panel decision left `splice` (R131 to
R137). -/
def governorStep (ratio : Nat) (splice : SpliceState) (s : State) : State :=
  spindleStep splice (infeedStep ratio (rampStep (compose s)))

/-! ### Service requests of the supervisor -/

/-- ENTER_CONFIG (R120). -/
def enterConfig (s : State) : State × Reply :=
  match s.gov.line with
  | .stopped => (s.withGov { s.gov with line := .configure }, okay [])
  | .configure => (s, okay [])
  | .run | .stopping | .halted => refuse s .state

/-- The first position quantity whose entry is not enabled (R121 check 5). -/
def positionUnconverted (c : Converter) : Option Nat :=
  if c.entries[(0 : Fin 16)].enabled = false then some 0
  else if c.entries[(1 : Fin 16)].enabled = false then some 1
  else none

/-- The first check of LEAVE_CONFIG that fails, in the order of R121. -/
def leaveViolation (s : State) : Option Violation :=
  match portViolation s with
  | some v => some v
  | none =>
    match s.track.geometry with
    | none => some (9, 0, 0)
    | some g =>
      match lineSourceViolation s with
      | some v => some v
      | none =>
        match zoneViolation g s.tunnel with
        | some v => some v
        | none => (positionUnconverted s.converter).map fun q => (16, q, 0)

/-- LEAVE_CONFIG (R121). -/
def leaveConfig (s : State) : State × Reply :=
  if s.gov.line ≠ .configure then refuse s .state
  else
    match leaveViolation s with
    | some v => refuse s .range v.1 v.2.1 v.2.2
    | none => (s.withGov { s.gov with line := .stopped }, okay [])

/-- The conditions of START, in order (R122). -/
def startConditions (s : State) : List Bool :=
  [decide (s.gov.line = .stopped), decide (s.port.state = .active), !haltPending s.notices,
   (spindleIn s.roll .active).isSome, !infeedLost s && !beltLost s, decide (s.track.free ≠ [])]

/-- START (R122, R95). -/
def startLine (s : State) : State × Reply :=
  match firstFailing (startConditions s) with
  | some n => refuse s .state 20 n
  | none => ((openGap .restart s).withGov { s.gov with line := .run }, okay [])

/-- STOP (R123, R96). -/
def stopLine (s : State) : State × Reply :=
  match s.gov.line with
  | .run =>
    (setGapReason .stop (s.withGov { s.gov with line := .stopping, rampStarted := !panelOpen s }), okay [])
  | .stopping => (s, okay [])
  | .configure | .stopped | .halted => refuse s .state

/-- ACK_HALT (R128, R174). With a command above 0 and a HALT-class notice pending it names the speed: the model's choice (log
entry 40). -/
def ackHalt (s : State) : State × Reply :=
  if s.gov.line ≠ .halted then refuse s .state
  else if s.gov.command ≠ 0 then refuse s .state 20 1
  else if haltPending s.notices then refuse s .state 20 2
  else
    ((s.withGov { s.gov with line := .stopped, rampStarted := false }).withRoll (settleSplice s.roll), okay [])

/-- SET_SPEED (R129). -/
def setSpeed (speed : Nat) (s : State) : State × Reply :=
  if 1000000 < speed then refuse s .range
  else
    let v := min speed s.gov.settings.vMax
    (s.withGov { s.gov with vSet := v },
     { status := if s.gov.settings.vMax < speed then .okClamped else .ok, payload := leBytes 4 v })

/-- The range checks of WRITE_SPEED_LIMITS, in table order (section 7.2). -/
def speedChecks (x : SpeedSettings) : List Bool :=
  [within 1 1000000 x.vMax, within 1 1000000 x.vInMax, within 1 100000 x.aUp, within 1 100000 x.aDown,
   within 1 100000 x.aHalt, within 0 1000000 x.spliceLimit, within 0 1000000 x.degradeLimit,
   within 0 1000 x.dancerSet, within 0 4095 x.kp, within 0 100000 x.trimLimit]

/-- WRITE_SPEED_LIMITS (R130). -/
def writeSpeedLimits (settings : SpeedSettings) (s : State) : State × Reply :=
  match firstFailing (speedChecks settings) with
  | some n => refuse s .range 1 n
  | none =>
    let v := min s.gov.vSet settings.vMax
    let c := min s.gov.command settings.vMax
    (s.withGov { s.gov with settings := settings, vSet := v, command := c },
     okay (leBytes 4 v ++ leBytes 4 c
       ++ flagByte (decide (settings.vMax < s.gov.vSet) || decide (settings.vMax < s.gov.command))))

end Sys2Proof.Machine
end

