-- ==== Sys2Proof/Machine/Tracks.lean ====
section
/-! DEFINITION. The track block (06_track_records.md): the entry move, the descriptors, WRITE_GEOMETRY, READ_LIST,
READ_RECORD and COLLECT, and the record format of R204. -/

namespace Sys2Proof.Machine

/-! ### Records behind the knife -/

/-- The records behind the knife, after the conversion of an arrival (R111). A re-base of BELT_POS, which ends a loss, finds
them in RUNOUT and TUNNEL; at any other arrival those stay that the belt has not reached. With BELT_POS LOST they stand. -/
def noteBehind (wasLost : Bool) (s : State) : State :=
  if beltLost s then s
  else
    let candidates := if wasLost then s.track.runout ++ s.track.tunnel else s.track.behind
    s.withTrack { s.track with behind := candidates.filter (behindKnife s) }

/-! ### The entry move -/

/-- The head of RUNOUT joins the tail of TUNNEL; its exposure residue starts at 0 (R112, R152). -/
def enterTunnel (i : Fin 64) (rest : List (Fin 64)) (s : State) : State :=
  let s := s.withTrack { s.track with runout := rest, tunnel := s.track.tunnel ++ [i] }
  s.withTunnel { s.tunnel with residues := s.tunnel.residues.set i 0 }

/-- The entry moves of an arrival, at most `n` of them (R111, R112). -/
def entryMoves : Nat → State → State
  | 0, s => s
  | n + 1, s =>
    match s.track.runout with
    | [] => s
    | i :: rest =>
      if moves s i (leadEdge (belt s) (recordAt s i)) (geometryOf s).entry then entryMoves n (enterTunnel i rest s)
      else s

/-- The entry moves of an ACTIVE arrival; none with BELT_POS LOST (R111). -/
def entryWork (s : State) : State := if beltLost s then s else entryMoves s.track.runout.length s

/-! ### WRITE_GEOMETRY -/

/-- The checks of R109, in table order; D_exit and D_cut must also lie above the item before them. -/
def geometryChecks (g : Geometry) : List Bool :=
  [within 1 10000000 g.entry,
   within 1 10000000 g.exit && decide (g.entry < g.exit),
   within 1 10000000 g.cut && decide (g.exit < g.cut),
   within 0 10000000 g.paster, within 100 200000 g.window, within 100 200000 g.cutWindow, within 0 100000 g.minGap,
   within 0 50000000 g.spliceMargin, within 0 50000000 g.coreReserve, within 1000 1000000 g.spliceLength]

/-- WRITE_GEOMETRY (R109). -/
def writeGeometry (items : Geometry) (s : State) : State × Reply :=
  if s.gov.line ≠ .configure then refuse s .state
  else
    match firstFailing (geometryChecks items) with
    | some n => refuse s .range 1 n
    | none => (s.withTrack { s.track with geometry := some items }, okay [])

/-! ### Reading -/

/-- The five lists, numbered as R115 lists them. -/
inductive ListName where
  | free | runout | tunnel | exit | done
  deriving DecidableEq, Repr

/-- FREE 0, RUNOUT 1, TUNNEL 2, EXIT 3, DONE 4 (R197, R204). -/
def listOf : Nat → Option ListName
  | 0 => some .free
  | 1 => some .runout
  | 2 => some .tunnel
  | 3 => some .exit
  | 4 => some .done
  | _ => none

/-- The number of a list. -/
def listCode : ListName → Nat
  | .free => 0 | .runout => 1 | .tunnel => 2 | .exit => 3 | .done => 4

/-- The records of a list, head first. -/
def listRecords (t : Track) : ListName → List (Fin 64)
  | .free => t.free
  | .runout => t.runout
  | .tunnel => t.tunnel
  | .exit => t.exit
  | .done => t.done

/-- The list a record stands in (R105). -/
def listHolding (t : Track) (i : Fin 64) : ListName :=
  if i ∈ t.runout then .runout else if i ∈ t.tunnel then .tunnel else if i ∈ t.exit then .exit
  else if i ∈ t.done then .done else .free

/-- The descriptor of a list and its indices (R106, R115). Its item Empty is 0 for yes and 1 for no, in the order in which
R106 names them: the model's choice (log entry 6). -/
def listPayload (ids : List (Fin 64)) : List Byte :=
  optBytes 1 (ids.head?.map Fin.val) ++ optBytes 1 (ids.getLast?.map Fin.val) ++ leBytes 1 ids.length
    ++ leBytes 1 (firstOfTwoCode ids.isEmpty) ++ ids.flatMap fun i => leBytes 1 i.val

/-- READ_LIST (R115). -/
def readList (list : Nat) (s : State) : State × Reply :=
  match listOf list with
  | none => refuse s .range
  | some l => (s, okay (listPayload (listRecords s.track l)))

/-- The value of a stamp, 0 when absent. -/
def stampNat (t : Option Timestamp) : Nat := (t.getD 0).toNat

/-- The 58 bytes of a track record as it stands in list `l` at belt position `p` (R204). -/
def recordPayload (i : Fin 64) (r : TrackRecord) (l : ListName) (p : Position) (lost : Bool) : List Byte :=
  let edges := decide (l = .runout) || decide (l = .tunnel) || decide (l = .exit)
  leBytes 1 i.val ++ leBytes 1 (listCode l) ++ leBytes 1 (kindCode r.kind)
    ++ leBytes 1 (bit r.isOpen + 2 * bit r.cutEmitted + 4 * bit r.inLen.isSome + 8 * bit r.transits.leadEntry.isSome
        + 16 * bit r.transits.leadExit.isSome + 32 * bit r.transits.trailEntry.isSome
        + 64 * bit r.transits.trailExit.isSome + 128 * bit edges)
    ++ leBytes 1 (marksCode r.marks) ++ leBytes 1 (dispositionCode r.disposition)
    ++ leBytes 1 (gapReasonCode r.gapReason) ++ leBytes 1 (r.lotClass.getD 0)
    ++ leBytes 1 ((r.pattern.map patternNumber).getD 0) ++ leBytes 1 (bit lost)
    ++ leBytes 2 ((r.lotTag <|> r.newLotTag).getD 0) ++ leBytes 4 (r.serial.getD 0)
    ++ leBytes 4 (r.inStart.getD 0).toNat ++ leBytes 4 (r.inLen.getD 0)
    ++ leBytes 4 (r.outStart.getD 0).toNat ++ leBytes 4 (r.outLen.getD 0)
    ++ leBytes 4 (stampNat r.transits.leadEntry) ++ leBytes 4 (stampNat r.transits.leadExit)
    ++ leBytes 4 (stampNat r.transits.trailEntry) ++ leBytes 4 (stampNat r.transits.trailExit)
    ++ leBytes 2 r.offBand
    ++ leBytes 4 (if edges then (leadEdge p r).toNat else 0) ++ leBytes 4 (if edges then (trailEdge p r).toNat else 0)

/-- READ_RECORD (R116). -/
def readRecord (index : Nat) (s : State) : State × Reply :=
  match index? 64 index with
  | none => refuse s .range
  | some i => (s, okay (recordPayload i (recordAt s i) (listHolding s.track i) (belt s) (beltLost s)))

/-- The expected index of COLLECT, absent when it is out of range (R117). -/
def expectedOf : OptArg → Option (Option (Fin 64))
  | .absent => some none
  | .present n => (index? 64 n).map some
  | .malformed _ => none

/-- COLLECT (R117). -/
def collect (expected : OptArg) (s : State) : State × Reply :=
  match expectedOf expected with
  | none => refuse s .range
  | some e =>
    match s.track.done with
    | [] => refuse s .empty
    | i :: rest =>
      if e.isSome ∧ e ≠ some i then refuse s .absent
      else
        (s.withTrack { s.track with done := rest, free := s.track.free ++ [i] },
         okay (recordPayload i (recordAt s i) .free (belt s) (beltLost s)))

end Sys2Proof.Machine
end

