-- ==== Sys2Proof/Machine/Service.lean ====
section
/-! DEFINITION. RESET with its two scopes (R199, R200), and the service handler's routing of a request to its owner
(R16). -/

namespace Sys2Proof.Machine

/-! ### RESET with scope RUN -/

/-- The sequencer after RESET RUN (R101). -/
def Sequencer.afterRun (q : Sequencer) : Sequencer := { Sequencer.reset with lowThreshold := q.lowThreshold }

/-- The track block after RESET RUN (R118): contents and geometry kept. -/
def Track.afterRun (t : Track) : Track := { Track.reset with records := t.records, geometry := t.geometry }

/-- The governor after RESET RUN (R139). -/
def Governor.afterRun (g : Governor) : Governor :=
  { Governor.reset with line := g.line, vSet := g.vSet, settings := g.settings }

/-- The tunnel controller after RESET RUN (R159). -/
def Tunnel.afterRun (t : Tunnel) : Tunnel :=
  { t with zones := Vector.ofFn fun z => { t.zones[z] with integrator := 0 }, restarted := true
           residues := Vector.replicate 64 0 }

/-- The roll change controller after RESET RUN (R177). -/
def RollChange.afterRun (coreReserve : Nat) (r : RollChange) : RollChange :=
  { r with splice := restingState r, attempts := 0, matchCount := 0, budget := budgetOf r coreReserve, phase := none,
           span := none, paste := none }

/-- Every block at the RUN column of its reset table (R199). -/
def clearRun (s : State) : State :=
  let s := haltFolds s
  { s with
    seq := s.seq.afterRun, track := s.track.afterRun, gov := s.gov.afterRun, tunnel := s.tunnel.afterRun,
    roll := s.roll.afterRun (geometryOf s).coreReserve, takeOff := { gate := .waste, cutEntry := none },
    notices := { s.notices with pendingSet := 0 } }

/-- RESET with scope RUN (R199). -/
def resetRun (s : State) : State × Reply := if atRest s.gov then (clearRun s, okay []) else refuse s .state

/-! ### RESET with scope FULL -/

/-- Every block but the ring port at its power-on values (R200). The requests in flight are abandoned and stay until
their completions come (R77). -/
def clearFull (s : State) : State :=
  { State.reset with
    port := s.port, lines := FieldLines.reset s.lines.pins,
    folds := { Calculator.reset with requests := (haltFolds s).folds.requests },
    timer := s.timer, reply := s.reply, downstream := s.downstream, freeIndex := s.freeIndex, pending := s.pending }

/-- RESET with scope FULL (R200). -/
def resetFull (s : State) : State × Reply := (clearFull s, okay [])

/-! ### Routing -/

/-- The service handler routes a request to its owner (R16, section 12.2). No code spells an event. -/
def serve (i : Instr) (s : State) : State × Reply :=
  match i with
  | .goActive => goActive s
  | .goListen => goListen s
  | .resync => resync s
  | .identify clear => identify clear s
  | .writeWindow direction number bounds => writeWindow direction number bounds s
  | .writeCommandMap field offset => writeCommandMap field offset s
  | .setCycle period slotLength => setCycle period slotLength s
  | .writeConversion quantity args => writeConversion quantity args s
  | .readQuantity quantity mode => readQuantity quantity mode s
  | .writeLineSetup group args => writeLineSetup group args s
  | .setLines pairs => setLines pairs s
  | .readLines => readLines s
  | .writeFoldKind kind multiplier limit actions => writeFoldKind kind multiplier limit actions s
  | .writePattern number args => writePattern number args s
  | .readPattern number => readPattern number s
  | .deletePattern number => deletePattern number s
  | .appendRun pattern count lotTag => appendRun pattern count lotTag s
  | .cancelRuns => cancelRuns s
  | .readOrders => readOrders s
  | .holdPanels => setHold true s
  | .releasePanels => setHold false s
  | .setOrderLow threshold => setOrderLow threshold s
  | .writeGeometry items => writeGeometry items s
  | .readList list => readList list s
  | .readRecord index => readRecord index s
  | .collect expected => collect expected s
  | .enterConfig => enterConfig s
  | .leaveConfig => leaveConfig s
  | .start => startLine s
  | .stop => stopLine s
  | .ackHalt => ackHalt s
  | .setSpeed speed => setSpeed speed s
  | .writeSpeedLimits settings => writeSpeedLimits settings s
  | .writeZone zone args => writeZone zone args s
  | .zoneEnable zone switch => zoneEnable zone switch s
  | .setPressureMin minimum => setPressureMin minimum s
  | .readZones => readZones s
  | .loadRoll spindle lotTag core thickness threaded => loadRoll spindle lotTag core thickness threaded s
  | .unloadRoll spindle => unloadRoll spindle s
  | .spliceCancel => spliceCancel s
  | .writeSpliceSettings tolerance matchTimeout pasteTimeout =>
    writeSpliceSettings tolerance matchTimeout pasteTimeout s
  | .readRolls => readRolls s
  | .writeNoticeRoute index enable cls group => writeNoticeRoute index enable cls group s
  | .setReportMask selection => setReportMask selection s
  | .clearNotices selection => clearNotices selection s
  | .readNotices => readNotices s
  | .raiseTest => raiseTest s
  | .resetRun => resetRun s
  | .resetFull => resetFull s
  | .powerOn _ | .cycleFrame _ | .syncComplete _ | .badFrameRunFault _ | .silenceTimeout | .faultRecovery _
  | .quantityStale _ _ | .foldCompletion | .zoneSettled _ _ | .matchComplete _ | .matchTimeout _ | .pasteTimeout _
  | .trimAtLimitCount _ => refuse s .unknown

end Sys2Proof.Machine
end

