-- ==== Sys2Proof/Machine/TakeOff.lean ====
section
/-! DEFINITION. The take-off (10_take_off.md): the exit moves with their dispositions, the cuts that fall due, and the cut
entry of an arrival. -/

namespace Sys2Proof.Machine

/-- The disposition of a record from its kind and its marks (R178). -/
def dispositionOf (r : TrackRecord) : Disposition :=
  if r.kind = some .panel then (if r.marks = Marks.empty then .good else .reject) else .waste

/-- The disposition a record carries; one whose disposition is absent is read by its kind and marks (R178). -/
def fateOf (r : TrackRecord) : Disposition := r.disposition.getD (dispositionOf r)

/-! ### The exit move -/

/-- The exit move of record `i`, the head of TUNNEL (R113): dwell checks, disposition, and the append to EXIT with cut
emitted at no. -/
def leaveTunnel (i : Fin 64) (rest : List (Fin 64)) (s : State) : State :=
  let s := dwellChecks i s
  let s := updateRecord s i fun r => { r with disposition := some (dispositionOf r), cutEmitted := false }
  s.withTrack { s.track with tunnel := rest, exit := s.track.exit ++ [i] }

/-- Record `i` may leave TUNNEL (R111, R113). -/
def mayLeave (s : State) (i : Fin 64) : Bool :=
  !(recordAt s i).isOpen && moves s i (trailEdge (belt s) (recordAt s i)) (geometryOf s).exit

/-- The exit moves of an arrival with timestamp `ts`, at most `n` of them (R111, R113). A record that a notice of the move
before has closed takes its trail stamps before it leaves (R155). -/
def exitMoves (ts : Timestamp) : Nat → State → State
  | 0, s => s
  | n + 1, s =>
    match s.track.tunnel with
    | [] => s
    | i :: rest =>
      if mayLeave s i then exitMoves ts n (leaveTunnel i rest (stampRecord ts i s)) else s

/-- The exit moves of an ACTIVE arrival; none with BELT_POS LOST (R111). -/
def exitWork (ts : Timestamp) (s : State) : State := if beltLost s then s else exitMoves ts s.track.tunnel.length s

/-! ### The cuts -/

/-- The cut target of a record in EXIT (R179). -/
def cutTarget (s : State) (r : TrackRecord) : Position :=
  beyond (beyond (outStartOf r) (outLenOf r)) (geometryOf s).cut

/-- The notices of a cut that leaves DONE with `doneSize` records (R180, R181, R114). -/
def cutNotices (r : TrackRecord) (doneSize : Nat) : List Notice :=
  (if fateOf r = .reject then [.rejectCut] else [])
    ++ (if r.cutEmitted then [] else [.cutLate])
    ++ (if doneSize = 48 then [.doneHigh] else [])

/-- The cut of record `i`, the head of EXIT (R180). -/
def cutHead (i : Fin 64) (rest : List (Fin 64)) (s : State) : State :=
  let r := recordAt s i
  let s := s.withTakeOff { s.takeOff with gate := fateOf r }
  let s := s.withTrack { s.track with exit := rest, done := s.track.done ++ [i] }
  raiseAll (cutNotices r s.track.done.length) s

/-- The cuts of an arrival, at most `n` of them (R180). A target at a distance of exactly 2^31 reads as not reached, by the
reach test of 00_scope.md 0.3.2 and against the words of R185: the model's choice (log entry 36). -/
def cuts : Nat → State → State
  | 0, s => s
  | n + 1, s =>
    match s.track.exit with
    | [] => s
    | i :: rest => if reached (belt s) (cutTarget s (recordAt s i)) then cuts n (cutHead i rest s) else s

/-! ### The cut entry -/

/-- The head of EXIT whose cut target lies within the cut window (R182). -/
def dueHead (s : State) : Option (Fin 64) :=
  match s.track.exit with
  | [] => none
  | i :: _ =>
    if !beltLost s && decide (distance (cutTarget s (recordAt s i)) (belt s) ≤ (geometryOf s).cutWindow) then some i
    else none

/-- The cut entry of an ACTIVE arrival, and the head's cut emitted (R182, R183). -/
def formCutEntry (s : State) : State :=
  match dueHead s with
  | none => s.withTakeOff { s.takeOff with cutEntry := none }
  | some i =>
    let r := recordAt s i
    let s := setRecord s i { r with cutEmitted := true }
    s.withTakeOff
      { s.takeOff with cutEntry := some { position := cutTarget s r, record := i, disposition := fateOf r } }

/-- The take-off's work of an ACTIVE arrival (R179 to R185). -/
def takeOffWork (s : State) : State :=
  formCutEntry (if beltLost s then s else cuts s.track.exit.length s)

end Sys2Proof.Machine
end

