-- ==== Sys2Proof/Machine/Frames.lean ====
section
/-! DEFINITION. The reception of a frame: the checks of the ring port, the arrival work of every block in its order (log
entry 10), the fields written into the frame, the service exchange, and the frame forwarded (R1 to R9, R15, R16). -/

namespace Sys2Proof.Machine

/-! ### Before the frame is checked -/

/-- The pin levels and the timer as a reception finds them; the last reply is gone. -/
def takeIn (rx : Reception) (s : State) : State :=
  let s := s.withLines { s.lines with pins := rx.pins }
  ((s.withTimer (s.timer + rx.elapsed)).withFreeIndex (s.freeIndex + 1)).withReply none

/-- The silence deadline has gone by: the timer is past it. A frame that comes as the timer reaches it is taken first
(R6, log entry 11). -/
def silenceOver (s : State) : Bool :=
  match s.port.deadline with
  | some d => portServes s.port.state && decide (d < s.timer)
  | none => false

/-- The state in which a received frame finds the part (R6). -/
def atReception (rx : Reception) (s : State) : State :=
  let s := takeIn rx s
  if silenceOver s then expireSilence s else s

/-! ### Bad frames and frames without samples -/

/-- A bad frame (R3, R5, R7 to R9). -/
def badFrame (code : ErrorCode) (s : State) : State := countBadRun (ageAll (countBad code s))

/-- A bad frame as it is forwarded in a port state (R5). -/
def forwardedBad (p : PortState) (f : Frame) : Frame :=
  match p with
  | .syncing | .listen | .active => withDamaged f
  | .offline | .fault => f

/-- A good frame that is no arrival (R4, R5, R7, R9). -/
def goodOutside (f : Frame) (s : State) : State := countGood (cycleGap s.port f) (ageAll (examineGood f s))

/-! ### Arrivals -/

/-- What the field lines and the converter do at every arrival (R25, R32, R35), the door test before the conversion; what
that means for a record closed there is the model's choice (log entry 45). A re-base of BELT_POS finds the records behind the
knife (R111). -/
def sampleWork (f : Frame) (s : State) : State :=
  noteBehind (beltLost s) (convertArrival f.slots (doorTest (latchLines s)))

/-- The blocks that act on the knife and the tunnel before the panel decision (R70 to R72, R112, R145 to R151, R166). -/
def beforeDecision (ts : Timestamp) (s : State) : State := rollWork ts (tunnelRegulation (entryWork (foldWork s)))

/-- The splice state as the roll change controller's work and the panel decision of an arrival leave it (R137, R166). A halt
that a closing or its decision brings once the outcome is applied comes after it (R85, R126): the model's choice (log entry
46). -/
def decidedSplice (ts : Timestamp) (s : State) : SpliceState :=
  (sequencerOutcome ts (beforeDecision ts s)).1.roll.splice

/-- The blocks that act on the knife and the tunnel up to the panel decision (R85). -/
def webWork (ts : Timestamp) (s : State) : State := sequencerWork ts (beforeDecision ts s)

/-- The work that reads what the panel decision left: exposure, the line's transitions, the governor, and the transit
stamps (R152, R124, R131, R125, R155). The governor takes the ratio that the passing left, and for the spindles the splice
state that the decision left (R166). -/
def lineWork (interval ratio : Nat) (splice : SpliceState) (ts : Timestamp) (s : State) : State :=
  transitWork ts (stopTest (governorStep ratio splice (drainTests (tunnelAccounting interval s))))

/-- The ratio in force as the passing of an arrival leaves it (R69, R76): later work of that arrival does not touch it. -/
def passedRatio (s : State) : Nat := (foldWork s).folds.ratio

/-- The work of an ACTIVE arrival after the conversion; the exit moves and the take-off come last (R113, R180). -/
def activeWork (interval : Nat) (ts : Timestamp) (s : State) : State :=
  takeOffWork (exitWork ts (lineWork interval (passedRatio s) (decidedSplice ts s) ts (webWork ts s)))

/-- The arrival work of every block in the port's state (R8). -/
def arrivalWork (interval : Nat) (f : Frame) (s : State) : State :=
  let s := sampleWork f s
  if s.port.state = .active then activeWork interval f.timestamp s else listenStop s

/-- A good frame in LISTEN or ACTIVE up to the writing of the fields (R4, R6, R8). -/
def arrival (f : Frame) (s : State) : State :=
  arrivalWork (frameInterval s.port f) f (countArrival (examineGood f s))

/-- What a received frame does before any service request it carries. -/
def frameWork (f : Frame) (s : State) : State :=
  match frameFinding s.port f with
  | some code => badFrame code s
  | none => if portServes s.port.state then arrival f s else goodOutside f s

/-! ### The service exchange -/

/-- The bytes of the request payload, up to the payload length (R201). -/
def requestPayload (f : Frame) : List Byte := f.payload.toList.take f.payloadLength.toNat

/-- The frame carries a request for this part (R16). -/
def addressed (p : RingPort) (f : Frame) : Bool := decide (f.target.toNat = p.address.toNat) && decide (f.code ≠ 0)

/-- The service handler's answer to the request of a frame (R16). -/
def handleRequest (f : Frame) (s : State) : State × Reply :=
  match Decode.parseRequest f.code.toNat (requestPayload f) with
  | .ok i => serve i s
  | .error st => refuse s st

/-- A frame with a reply in its reply space (R16, R201). -/
def withReplySpace (f : Frame) (r : Reply) : Frame :=
  { f with replyStatus := BitVec.ofNat 8 (statusCode r.status), tagEcho := f.tag,
           replyLength := BitVec.ofNat 8 r.payload.length, replyPayload := padded 192 r.payload }

/-- The end of an arrival's frame: the fields are written, then the request is carried out, and the frame goes
downstream with its trailer recomputed (R1, R15, R16). -/
def finishArrival (f : Frame) (s : State) : State :=
  let f' := { f with slots := writtenSlots s f.slots }
  if addressed s.port f then
    let r := handleRequest f s
    (r.1.withReply (some r.2)).withDownstream (some (withFreshCrc (withReplySpace f' r.2)))
  else s.withDownstream (some (withFreshCrc f'))

/-- The whole handling of a frame by the part in the state it finds (R1 to R16). -/
def handleFrame (f : Frame) (s : State) : State :=
  match frameFinding s.port f with
  | some code => (badFrame code s).withDownstream (some (forwardedBad s.port.state f))
  | none =>
    if portServes s.port.state then finishArrival f (arrival f s)
    else (goodOutside f s).withDownstream (some f)

/-- The reception of a frame. -/
def receive (rx : Reception) (s : State) : State := handleFrame rx.frame (atReception rx s)

end Sys2Proof.Machine
end

