-- ==== Sys2Proof/Machine/Commands.lean ====
section
/-! DEFINITION. The meaning of each command: one definition for each row of spec/opcode_table.json. Service requests
stand alone here as their owners take them (R16); the same requests in a frame are handled by `receive`. -/

namespace Sys2Proof.Machine

/-- What a command answers. -/
abbrev Result := Host.Outcome State Fault Refusal

/-- A request the part answers in LISTEN and ACTIVE; in any other port state it passes untouched (R16, section 1.4; log
entry 4). -/
def take (request : State → State × Reply) (s : State) : Result :=
  if portServes s.port.state then .next ((request s).1.withReply (some (request s).2)) else .next (s.withReply none)

/-- An event that the work of a received frame brings about. Where the frame brings it about, the command is the
reception of that frame; where it does not, the event does not come about and nothing changes (log entry 3). -/
def inFrame (due : State → State → Bool) (rx : Reception) (s : State) : Result :=
  let before := atReception rx s
  if due before (frameWork rx.frame before) then .next (receive rx s) else .next (s.withReply none)

/-! ### When an event of a frame is due: the state the frame finds, and the state its work leaves -/

/-- The sync count reaches 8 and the port enters LISTEN (R7). -/
def dueSync (before after : State) : Bool := before.port.state = .syncing && after.port.state = .listen

/-- The bad-frame run count reaches 3 and the port enters FAULT (R8, R9). -/
def dueRunFault (before after : State) : Bool := portServes before.port.state && decide (after.port.state = .fault)

/-- The recovery count reaches 64 and the port enters LISTEN (R9). -/
def dueRecovery (before after : State) : Bool := before.port.state = .fault && after.port.state = .listen

/-- Quantity `q` enters LOST (R27). -/
def dueStale (q : Fin 16) (before after : State) : Bool := !(quantity before q).lost && (quantity after q).lost

/-- Zone `z` enters IN_BAND (R146). -/
def dueSettled (z : Fin 6) (before after : State) : Bool :=
  decide (before.tunnel.zones[z].state ≠ .inBand) && decide (after.tunnel.zones[z].state = .inBand)

/-- The match count reaches 10 and the controller enters PASTE (R169). -/
def dueMatch (before after : State) : Bool := before.roll.splice = .matching && after.roll.splice = .paste

/-- A match fails: the attempt count rises (R169). -/
def dueMatchTimeout (before after : State) : Bool :=
  before.roll.splice = .matching && decide (before.roll.attempts < after.roll.attempts)

/-- A paste fails (R170). -/
def duePasteTimeout (before after : State) : Bool := before.roll.splice = .paste && after.roll.splice = .failed

/-- The trim-at-limit count reaches 50 (R136). -/
def dueTrim (before after : State) : Bool :=
  decide (before.gov.trimCount ≠ 50) && decide (after.gov.trimCount = 50)

/-! ### Power-on, frames and events -/

/-- POWER_ON (R18, R2): every block at power-on, with the straps sampled. -/
def execPowerOn (straps : BitVec 4) (s : State) : Result :=
  .next { State.reset with port := RingPort.reset straps, lines := FieldLines.reset s.lines.pins,
                           freeIndex := s.freeIndex, pending := s.pending }

/-- CYCLE_FRAME (R3). -/
def execCycleFrame (rx : Reception) (s : State) : Result := .next (receive rx s)

/-- SYNC_COMPLETE (R7). -/
def execSyncComplete (rx : Reception) (s : State) : Result := inFrame dueSync rx s

/-- BAD_FRAME_RUN_FAULT (R9). -/
def execBadFrameRunFault (rx : Reception) (s : State) : Result := inFrame dueRunFault rx s

/-- SILENCE_TIMEOUT (R6): the timer reaches the deadline with no good frame. -/
def execSilenceTimeout (s : State) : Result :=
  match s.port.deadline with
  | some d =>
    if portServes s.port.state then .next (expireSilence ((s.withReply none).withTimer (max s.timer d)))
    else .next (s.withReply none)
  | none => .next (s.withReply none)

/-- FAULT_RECOVERY (R9). -/
def execFaultRecovery (rx : Reception) (s : State) : Result := inFrame dueRecovery rx s

/-- QUANTITY_STALE (R27). -/
def execQuantityStale (q : Fin 16) (rx : Reception) (s : State) : Result := inFrame (dueStale q) rx s

/-- FOLD_COMPLETION (R65). -/
def execFoldCompletion (s : State) : Result := .next (completeRequest (s.withReply none))

/-- ZONE_SETTLED (R146). -/
def execZoneSettled (z : Fin 6) (rx : Reception) (s : State) : Result := inFrame (dueSettled z) rx s

/-- MATCH_COMPLETE (R169). -/
def execMatchComplete (rx : Reception) (s : State) : Result := inFrame dueMatch rx s

/-- MATCH_TIMEOUT (R169). -/
def execMatchTimeout (rx : Reception) (s : State) : Result := inFrame dueMatchTimeout rx s

/-- PASTE_TIMEOUT (R170). -/
def execPasteTimeout (rx : Reception) (s : State) : Result := inFrame duePasteTimeout rx s

/-- TRIM_AT_LIMIT_COUNT (R136). -/
def execTrimAtLimitCount (rx : Reception) (s : State) : Result := inFrame dueTrim rx s

/-! ### Service requests -/

/-- GO_ACTIVE (R10). -/
def execGoActive (s : State) : Result := take goActive s

/-- GO_LISTEN (R10). -/
def execGoListen (s : State) : Result := take goListen s

/-- RESYNC (R10). -/
def execResync (s : State) : Result := take resync s

/-- IDENTIFY (R17). -/
def execIdentify (clear : Nat) (s : State) : Result := take (identify clear) s

/-- WRITE_WINDOW (R11). -/
def execWriteWindow (direction number : Nat) (bounds : WindowArg) (s : State) : Result :=
  take (writeWindow direction number bounds) s

/-- WRITE_COMMAND_MAP (R12). -/
def execWriteCommandMap (field : Nat) (offset : OptArg) (s : State) : Result := take (writeCommandMap field offset) s

/-- SET_CYCLE (R13). -/
def execSetCycle (period slotLength : Nat) (s : State) : Result := take (setCycle period slotLength) s

/-- WRITE_CONVERSION (R20). -/
def execWriteConversion (quantity : Nat) (args : ConversionArgs) (s : State) : Result :=
  take (writeConversion quantity args) s

/-- READ_QUANTITY (R29). -/
def execReadQuantity (quantity mode : Nat) (s : State) : Result := take (readQuantity quantity mode) s

/-- WRITE_LINE_SETUP (R37). -/
def execWriteLineSetup (group : Nat) (args : GroupArgs) (s : State) : Result := take (writeLineSetup group args) s

/-- SET_LINES (R38). -/
def execSetLines (pairs : List (Nat × Nat)) (s : State) : Result := take (setLines pairs) s

/-- READ_LINES (R39). -/
def execReadLines (s : State) : Result := take readLines s

/-- WRITE_FOLD_KIND (R43). -/
def execWriteFoldKind (kind multiplier limit actions : Nat) (s : State) : Result :=
  take (writeFoldKind kind multiplier limit actions) s

/-- WRITE_PATTERN (R48). -/
def execWritePattern (number : Nat) (args : PatternArgs) (s : State) : Result := take (writePattern number args) s

/-- READ_PATTERN (R53). -/
def execReadPattern (number : Nat) (s : State) : Result := take (readPattern number) s

/-- DELETE_PATTERN (R52). -/
def execDeletePattern (number : Nat) (s : State) : Result := take (deletePattern number) s

/-- APPEND_RUN (R79). -/
def execAppendRun (pattern count lotTag : Nat) (s : State) : Result := take (appendRun pattern count lotTag) s

/-- CANCEL_RUNS (R80). -/
def execCancelRuns (s : State) : Result := take cancelRuns s

/-- READ_ORDERS (R99). -/
def execReadOrders (s : State) : Result := take readOrders s

/-- HOLD_PANELS (R94). -/
def execHoldPanels (s : State) : Result := take (setHold true) s

/-- RELEASE_PANELS (R94). -/
def execReleasePanels (s : State) : Result := take (setHold false) s

/-- SET_ORDER_LOW (R81). -/
def execSetOrderLow (threshold : Nat) (s : State) : Result := take (setOrderLow threshold) s

/-- WRITE_GEOMETRY (R109). -/
def execWriteGeometry (items : Geometry) (s : State) : Result := take (writeGeometry items) s

/-- READ_LIST (R115). -/
def execReadList (list : Nat) (s : State) : Result := take (readList list) s

/-- READ_RECORD (R116). -/
def execReadRecord (index : Nat) (s : State) : Result := take (readRecord index) s

/-- COLLECT (R117). -/
def execCollect (expected : OptArg) (s : State) : Result := take (collect expected) s

/-- ENTER_CONFIG (R120). -/
def execEnterConfig (s : State) : Result := take enterConfig s

/-- LEAVE_CONFIG (R121). -/
def execLeaveConfig (s : State) : Result := take leaveConfig s

/-- START (R122). -/
def execStart (s : State) : Result := take startLine s

/-- STOP (R123). -/
def execStop (s : State) : Result := take stopLine s

/-- ACK_HALT (R128). -/
def execAckHalt (s : State) : Result := take ackHalt s

/-- SET_SPEED (R129). -/
def execSetSpeed (speed : Nat) (s : State) : Result := take (setSpeed speed) s

/-- WRITE_SPEED_LIMITS (R130). -/
def execWriteSpeedLimits (settings : SpeedSettings) (s : State) : Result := take (writeSpeedLimits settings) s

/-- WRITE_ZONE (R141). -/
def execWriteZone (zone : Nat) (args : ZoneArgs) (s : State) : Result := take (writeZone zone args) s

/-- ZONE_ENABLE (R144). -/
def execZoneEnable (zone switch : Nat) (s : State) : Result := take (zoneEnable zone switch) s

/-- SET_PRESSURE_MIN (R149). -/
def execSetPressureMin (minimum : Nat) (s : State) : Result := take (setPressureMin minimum) s

/-- READ_ZONES (R158). -/
def execReadZones (s : State) : Result := take readZones s

/-- LOAD_ROLL (R161). -/
def execLoadRoll (spindle lotTag core thickness threaded : Nat) (s : State) : Result :=
  take (loadRoll spindle lotTag core thickness threaded) s

/-- UNLOAD_ROLL (R162). -/
def execUnloadRoll (spindle : Nat) (s : State) : Result := take (unloadRoll spindle) s

/-- SPLICE_CANCEL (R173). -/
def execSpliceCancel (s : State) : Result := take spliceCancel s

/-- WRITE_SPLICE_SETTINGS (R175). -/
def execWriteSpliceSettings (tolerance matchTimeout pasteTimeout : Nat) (s : State) : Result :=
  take (writeSpliceSettings tolerance matchTimeout pasteTimeout) s

/-- READ_ROLLS (R176). -/
def execReadRolls (s : State) : Result := take readRolls s

/-- WRITE_NOTICE_ROUTE (R190). -/
def execWriteNoticeRoute (index enable cls group : Nat) (s : State) : Result :=
  take (writeNoticeRoute index enable cls group) s

/-- SET_REPORT_MASK (R191). -/
def execSetReportMask (selection : NoticeSet) (s : State) : Result := take (setReportMask selection) s

/-- CLEAR_NOTICES (R193). -/
def execClearNotices (selection : NoticeSet) (s : State) : Result := take (clearNotices selection) s

/-- READ_NOTICES (R194). -/
def execReadNotices (s : State) : Result := take readNotices s

/-- RAISE_TEST (R195). -/
def execRaiseTest (s : State) : Result := take raiseTest s

/-- RESET_RUN (R199). -/
def execResetRun (s : State) : Result := take resetRun s

/-- RESET_FULL (R200). -/
def execResetFull (s : State) : Result := take resetFull s

end Sys2Proof.Machine
end

