-- ==== Sys2Proof/Machine/Dispatch.lean ====
section
/-! DEFINITION. The dispatch: one arm for each command, each one call of its meaning. -/

namespace Sys2Proof.Machine

def exec (i : Instr) (s : State) : Host.Outcome State Fault Refusal :=
  match i with
  | .powerOn straps => Sys2Proof.Machine.execPowerOn straps s
  | .cycleFrame rx => Sys2Proof.Machine.execCycleFrame rx s
  | .syncComplete rx => Sys2Proof.Machine.execSyncComplete rx s
  | .badFrameRunFault rx => Sys2Proof.Machine.execBadFrameRunFault rx s
  | .silenceTimeout => Sys2Proof.Machine.execSilenceTimeout s
  | .faultRecovery rx => Sys2Proof.Machine.execFaultRecovery rx s
  | .quantityStale q rx => Sys2Proof.Machine.execQuantityStale q rx s
  | .foldCompletion => Sys2Proof.Machine.execFoldCompletion s
  | .zoneSettled z rx => Sys2Proof.Machine.execZoneSettled z rx s
  | .matchComplete rx => Sys2Proof.Machine.execMatchComplete rx s
  | .matchTimeout rx => Sys2Proof.Machine.execMatchTimeout rx s
  | .pasteTimeout rx => Sys2Proof.Machine.execPasteTimeout rx s
  | .trimAtLimitCount rx => Sys2Proof.Machine.execTrimAtLimitCount rx s
  | .goActive => Sys2Proof.Machine.execGoActive s
  | .goListen => Sys2Proof.Machine.execGoListen s
  | .resync => Sys2Proof.Machine.execResync s
  | .identify clear => Sys2Proof.Machine.execIdentify clear s
  | .writeWindow direction number bounds => Sys2Proof.Machine.execWriteWindow direction number bounds s
  | .writeCommandMap field offset => Sys2Proof.Machine.execWriteCommandMap field offset s
  | .setCycle period slotLength => Sys2Proof.Machine.execSetCycle period slotLength s
  | .writeConversion quantity args => Sys2Proof.Machine.execWriteConversion quantity args s
  | .readQuantity quantity mode => Sys2Proof.Machine.execReadQuantity quantity mode s
  | .writeLineSetup group args => Sys2Proof.Machine.execWriteLineSetup group args s
  | .setLines pairs => Sys2Proof.Machine.execSetLines pairs s
  | .readLines => Sys2Proof.Machine.execReadLines s
  | .writeFoldKind kind multiplier limit actions => Sys2Proof.Machine.execWriteFoldKind kind multiplier limit actions s
  | .writePattern number args => Sys2Proof.Machine.execWritePattern number args s
  | .readPattern number => Sys2Proof.Machine.execReadPattern number s
  | .deletePattern number => Sys2Proof.Machine.execDeletePattern number s
  | .appendRun pattern count lotTag => Sys2Proof.Machine.execAppendRun pattern count lotTag s
  | .cancelRuns => Sys2Proof.Machine.execCancelRuns s
  | .readOrders => Sys2Proof.Machine.execReadOrders s
  | .holdPanels => Sys2Proof.Machine.execHoldPanels s
  | .releasePanels => Sys2Proof.Machine.execReleasePanels s
  | .setOrderLow threshold => Sys2Proof.Machine.execSetOrderLow threshold s
  | .writeGeometry items => Sys2Proof.Machine.execWriteGeometry items s
  | .readList list => Sys2Proof.Machine.execReadList list s
  | .readRecord index => Sys2Proof.Machine.execReadRecord index s
  | .collect expected => Sys2Proof.Machine.execCollect expected s
  | .enterConfig => Sys2Proof.Machine.execEnterConfig s
  | .leaveConfig => Sys2Proof.Machine.execLeaveConfig s
  | .start => Sys2Proof.Machine.execStart s
  | .stop => Sys2Proof.Machine.execStop s
  | .ackHalt => Sys2Proof.Machine.execAckHalt s
  | .setSpeed speed => Sys2Proof.Machine.execSetSpeed speed s
  | .writeSpeedLimits settings => Sys2Proof.Machine.execWriteSpeedLimits settings s
  | .writeZone zone args => Sys2Proof.Machine.execWriteZone zone args s
  | .zoneEnable zone switch => Sys2Proof.Machine.execZoneEnable zone switch s
  | .setPressureMin minimum => Sys2Proof.Machine.execSetPressureMin minimum s
  | .readZones => Sys2Proof.Machine.execReadZones s
  | .loadRoll spindle lotTag core thickness threaded => Sys2Proof.Machine.execLoadRoll spindle lotTag core thickness threaded s
  | .unloadRoll spindle => Sys2Proof.Machine.execUnloadRoll spindle s
  | .spliceCancel => Sys2Proof.Machine.execSpliceCancel s
  | .writeSpliceSettings tolerance matchTimeout pasteTimeout => Sys2Proof.Machine.execWriteSpliceSettings tolerance matchTimeout pasteTimeout s
  | .readRolls => Sys2Proof.Machine.execReadRolls s
  | .writeNoticeRoute index enable cls group => Sys2Proof.Machine.execWriteNoticeRoute index enable cls group s
  | .setReportMask selection => Sys2Proof.Machine.execSetReportMask selection s
  | .clearNotices selection => Sys2Proof.Machine.execClearNotices selection s
  | .readNotices => Sys2Proof.Machine.execReadNotices s
  | .raiseTest => Sys2Proof.Machine.execRaiseTest s
  | .resetRun => Sys2Proof.Machine.execResetRun s
  | .resetFull => Sys2Proof.Machine.execResetFull s

end Sys2Proof.Machine
end

