-- ==== Sys2Proof/Safety.lean ====
section
/-! DEFINITION. The laws a state of the part keeps, as the rules of spec/ give them: what a safe run means here. Each is a
property of one state; that every step keeps it is stated in Certificates/Slice0/Obligations.lean. -/

namespace Sys2Proof.Safety

open Machine

/-- The five lists one after another. -/
def allListed (t : Track) : List (Fin 64) := t.free ++ t.runout ++ t.tunnel ++ t.exit ++ t.done

/-- R105: every track record is in exactly one of the five lists, and their sizes sum to 64. -/
def ListsHoldEveryRecordOnce (s : State) : Prop := (allListed s.track).Nodup ∧ (allListed s.track).length = 64

/-- R129, R130, R135: neither V_set nor the speed command is above V_max. -/
def SpeedsWithinMaximum (s : State) : Prop :=
  s.gov.vSet ≤ s.gov.settings.vMax ∧ s.gov.command ≤ s.gov.settings.vMax

/-- R64, R68: at most 8 requests in flight, and at most 32 entries queued or in flight. -/
def FoldWorkWithinLimits (s : State) : Prop :=
  inFlight s.folds ≤ 8 ∧ inFlight s.folds + s.folds.queue.length ≤ 32

/-- R44, R46, R47: the totals and the CLAMPED attribute of every present pattern are those of its record under the fold
kind table. -/
def TotalsFollowFoldKinds (s : State) : Prop :=
  ∀ p : Fin 48, ∀ x, s.store.places[p] = some x →
    x.totals = computeTotals s.store.kinds x.leadIn x.leadOut x.groups ∧ x.clamped = isClamped s.store.kinds x.groups

/-- The line stands: CONFIGURE, STOPPED, or HALTED with the speed command at 0 (section 12.2). -/
def LineStands (g : Governor) : Prop :=
  g.line = .configure ∨ g.line = .stopped ∨ (g.line = .halted ∧ g.command = 0)

/-- R98, R120, R125, R127: no record is open while the line stands, and V_max is not 0. -/
def NothingOpenAtRest (s : State) : Prop :=
  0 < s.gov.settings.vMax ∧ (LineStands s.gov → s.seq.openRecord = none)

/-- R187: the four fixed notices are enabled and of class HALT. -/
def FixedNoticesHalt (s : State) : Prop :=
  ∀ i ∈ Notice.fixedIndices, s.notices.routes[i].enabled = true ∧ s.notices.routes[i].cls = .halt

/-- R6: the silence deadline runs in LISTEN and ACTIVE, and in no other port state. -/
def DeadlineRunsWhileServing (s : State) : Prop :=
  s.port.deadline.isSome = (decide (s.port.state = .listen) || decide (s.port.state = .active))

/-- R160, R166: one spindle is ACTIVE and the other LOADED. -/
def RollsPaired (r : RollChange) : Prop :=
  (r.spindleA.state = .active ∧ r.spindleB.state = .loaded) ∨ (r.spindleA.state = .loaded ∧ r.spindleB.state = .active)

/-- R160, R166 to R170: at most one spindle is ACTIVE, exactly one in RUN and STOPPING, and from READY to PASTE one is
ACTIVE and the other LOADED. -/
def OneSpindleFeeds (s : State) : Prop :=
  ¬(s.roll.spindleA.state = .active ∧ s.roll.spindleB.state = .active)
    ∧ (s.gov.line = .run ∨ s.gov.line = .stopping →
        s.roll.spindleA.state = .active ∨ s.roll.spindleB.state = .active)
    ∧ (s.roll.splice = .ready ∨ s.roll.splice = .armed ∨ s.roll.splice = .matching ∨ s.roll.splice = .paste →
        RollsPaired s.roll)

/-- R140, R144, R148, R150: openings and integrators stay in their ranges, and an unfitted zone is OFF with its valve
closed. -/
def ValvesWithinRange (s : State) : Prop :=
  ∀ z : Fin 6,
    s.tunnel.zones[z].opening ≤ 1000 ∧ s.tunnel.zones[z].integrator ≤ 256000 ∧ s.tunnel.zones[z].settings.fallback ≤ 1000
      ∧ (s.tunnel.zones[z].fit = none → s.tunnel.zones[z].state = .off ∧ s.tunnel.zones[z].opening = 0)

end Sys2Proof.Safety
end

