-- ==== Sys2Proof/WellFormed.lean ====
section
/-! DEFINITION. Well-formed commands: every operand of a service request fits the bytes R197 gives it and the payload
fits its 192 bytes (R201), and a frame's slot area holds as many bytes as its header says (R201). Operands out of the
ranges of their rules are well formed: the part refuses them. -/

namespace Sys2Proof

/-- A number fits `n` bytes. -/
def fits (n v : Nat) : Bool := decide (v < 256 ^ n)

/-- An optional operand of `n` bytes: a presence byte other than 0 and 1 carries no value. -/
def optFits (n : Nat) : OptArg → Bool
  | .absent => true
  | .present v => fits n v
  | .malformed k => decide (2 ≤ k) && fits 1 k

/-- The bounds of WRITE_WINDOW. -/
def windowFits : WindowArg → Bool
  | .absent => true
  | .present b l => fits 2 b && fits 2 l
  | .malformed k => decide (2 ≤ k) && fits 1 k

/-- A signed operand of 4 bytes. -/
def signedFits (x : Int) : Bool := decide (-2147483648 ≤ x) && decide (x ≤ 2147483647)

/-- The entry of WRITE_CONVERSION. -/
def conversionFits (a : ConversionArgs) : Bool :=
  fits 1 a.enabled && fits 1 a.source && fits 2 a.slotOffset && optFits 2 a.validity && fits 1 a.group
    && fits 1 a.firstLine && fits 1 a.bitOffset && fits 1 a.width && fits 1 a.signed && fits 1 a.gray
    && fits 2 a.numerator && fits 2 a.denominator && signedFits a.offset && fits 4 a.maxChange && fits 1 a.staleLimit

/-- The setup of WRITE_LINE_SETUP. -/
def groupSetupFits (a : GroupArgs) : Bool :=
  fits 1 a.lock && optFits 1 a.inhibit
    && a.lines.toList.all fun l => fits 1 l.polarity && fits 1 l.mode && fits 1 l.function

/-- A group entry of a pattern. -/
def foldGroupFits (g : FoldGroup) : Bool :=
  fits 4 g.flatLead && fits 1 g.kind && fits 1 g.count && fits 2 g.pitch && fits 2 g.startDepth && fits 2 g.endDepth

/-- A pattern record: at most 14 group entries fit the payload. -/
def patternFits (a : PatternArgs) : Bool :=
  fits 4 a.leadIn && fits 4 a.leadOut && fits 2 a.minDwell && fits 2 a.maxDwell && fits 2 a.tolerance
    && fits 1 a.lotClass && decide (a.groups.length ≤ 14) && a.groups.all foldGroupFits

/-- The items of WRITE_GEOMETRY. -/
def geometryFits (g : Geometry) : Bool :=
  fits 4 g.entry && fits 4 g.exit && fits 4 g.cut && fits 4 g.paster && fits 4 g.window && fits 4 g.cutWindow
    && fits 4 g.minGap && fits 4 g.spliceMargin && fits 4 g.coreReserve && fits 4 g.spliceLength

/-- The settings of WRITE_SPEED_LIMITS. -/
def speedsFit (x : SpeedSettings) : Bool :=
  fits 4 x.vMax && fits 4 x.vInMax && fits 4 x.aUp && fits 4 x.aDown && fits 4 x.aHalt && fits 4 x.spliceLimit
    && fits 4 x.degradeLimit && fits 2 x.dancerSet && fits 2 x.kp && fits 4 x.trimLimit

/-- The fields of WRITE_ZONE. -/
def zoneFits (a : ZoneArgs) : Bool :=
  optFits 1 a.role && optFits 4 a.spanStart && optFits 4 a.spanEnd && fits 2 a.setPoint && fits 2 a.bandLow
    && fits 2 a.bandHigh && fits 2 a.hysteresis && fits 1 a.settleCount && fits 2 a.kp && fits 2 a.ki
    && fits 2 a.bias && fits 2 a.fallback

/-- A reception: the slot area holds as many bytes as the header says (R201). -/
def frameFits (rx : Reception) : Bool := decide (rx.frame.slots.length = rx.frame.slotLength.toNat)

/-- A command is well formed. -/
def wellFormed (i : Instr) : Bool :=
  match i with
  | .powerOn _ => true
  | .cycleFrame rx => frameFits rx
  | .syncComplete rx => frameFits rx
  | .badFrameRunFault rx => frameFits rx
  | .silenceTimeout => true
  | .faultRecovery rx => frameFits rx
  | .quantityStale _ rx => frameFits rx
  | .foldCompletion => true
  | .zoneSettled _ rx => frameFits rx
  | .matchComplete rx => frameFits rx
  | .matchTimeout rx => frameFits rx
  | .pasteTimeout rx => frameFits rx
  | .trimAtLimitCount rx => frameFits rx
  | .goActive => true
  | .goListen => true
  | .resync => true
  | .identify clear => fits 1 clear
  | .writeWindow direction number bounds => fits 1 direction && fits 1 number && windowFits bounds
  | .writeCommandMap field offset => fits 1 field && optFits 2 offset
  | .setCycle period slotLength => fits 2 period && fits 2 slotLength
  | .writeConversion quantity args => fits 1 quantity && conversionFits args
  | .readQuantity quantity mode => fits 1 quantity && fits 1 mode
  | .writeLineSetup group args => fits 1 group && groupSetupFits args
  | .setLines pairs => decide (pairs.length ≤ 95) && pairs.all fun p => fits 1 p.1 && fits 1 p.2
  | .readLines => true
  | .writeFoldKind kind multiplier limit actions => fits 1 kind && fits 1 multiplier && fits 2 limit && fits 1 actions
  | .writePattern number args => fits 1 number && patternFits args
  | .readPattern number => fits 1 number
  | .deletePattern number => fits 1 number
  | .appendRun pattern count lotTag => fits 1 pattern && fits 2 count && fits 2 lotTag
  | .cancelRuns => true
  | .readOrders => true
  | .holdPanels => true
  | .releasePanels => true
  | .setOrderLow threshold => fits 1 threshold
  | .writeGeometry items => geometryFits items
  | .readList list => fits 1 list
  | .readRecord index => fits 1 index
  | .collect expected => optFits 1 expected
  | .enterConfig => true
  | .leaveConfig => true
  | .start => true
  | .stop => true
  | .ackHalt => true
  | .setSpeed speed => fits 4 speed
  | .writeSpeedLimits settings => speedsFit settings
  | .writeZone zone args => fits 1 zone && zoneFits args
  | .zoneEnable zone switch => fits 1 zone && fits 1 switch
  | .setPressureMin minimum => fits 2 minimum
  | .readZones => true
  | .loadRoll spindle lotTag core thickness threaded =>
    fits 1 spindle && fits 2 lotTag && fits 2 core && fits 2 thickness && fits 1 threaded
  | .unloadRoll spindle => fits 1 spindle
  | .spliceCancel => true
  | .writeSpliceSettings tolerance matchTimeout pasteTimeout =>
    fits 4 tolerance && fits 2 matchTimeout && fits 2 pasteTimeout
  | .readRolls => true
  | .writeNoticeRoute index enable cls group => fits 1 index && fits 1 enable && fits 1 cls && fits 1 group
  | .setReportMask _ => true
  | .clearNotices _ => true
  | .readNotices => true
  | .raiseTest => true
  | .resetRun => true
  | .resetFull => true

end Sys2Proof
end

