-- ==== Sys2Proof/Certificates/Slice0/Obligations.lean ====
section
/-! DEFINITION. The statements for the provers. The words of a statement that recur stand first, as definitions of their
own; each statement is a `def Obligations.<Name> : Prop`. -/

namespace Sys2Proof.Statements

open Machine

/-! ### Words of the statements -/

/-- The port answers requests: LISTEN or ACTIVE. -/
def Served (s : State) : Prop := s.port.state = .listen ∨ s.port.state = .active

/-- What a command answers. -/
abbrev Answer := Host.Outcome State Fault Refusal

/-- The next state `t`, with an OK reply of the given payload. -/
def ok (t : State) (payload : List Byte) : Answer := .next (t.withReply (some { status := .ok, payload := payload }))

/-- The same state, with a refused reply: the status, the violation and its two items (R198). -/
def refused (s : State) (st : Status) (violation : Nat := 0) (a : Nat := 0) (b : Nat := 0) : Answer :=
  .next (s.withReply (some
    { status := st, payload := [BitVec.ofNat 8 violation, BitVec.ofNat 8 a, BitVec.ofNat 8 b, 0] }))

/-- The number of a refused reply's first failing operand, from 1: the first `false` of the list (R198, FIELD). -/
def firstFalse (checks : List Bool) : Option Nat := (checks.findIdx? fun b => !b).map (· + 1)

/-- One byte that holds a number. -/
def byte (n : Nat) : Byte := BitVec.ofNat 8 n

/-- A number in two bytes, least significant first (R197). -/
def two (n : Nat) : List Byte := [byte n, byte (n / 256)]

/-- A number in four bytes, least significant first (R197). -/
def four (n : Nat) : List Byte := [byte n, byte (n / 256), byte (n / 65536), byte (n / 16777216)]

/-- Neither a silence deadline gone by nor one that the reception finds past: the frame is taken in the state as it
stands. -/
def TakenInTime (rx : Reception) (s : State) : Prop := ∀ d, s.port.deadline = some d → s.timer + rx.elapsed ≤ d

/-- A notice is pending when its route is enabled. -/
def PendingIfEnabled (n : Notice) (s t : State) : Prop :=
  s.notices.routes[noticeIndex n].enabled = true → isPending t.notices (noticeIndex n) = true

/-- Every setting that only a service request or a reset writes. -/
def SameSettings (s t : State) : Prop :=
  t.store = s.store ∧ t.converter.entries = s.converter.entries ∧ t.lines.lines = s.lines.lines
    ∧ (∀ g : Fin 4, t.lines.groups[g].locked = s.lines.groups[g].locked
        ∧ t.lines.groups[g].inhibit = s.lines.groups[g].inhibit)
    ∧ t.track.geometry = s.track.geometry
    ∧ t.gov.settings = s.gov.settings ∧ t.gov.vSet = s.gov.vSet
    ∧ (∀ z : Fin 6, t.tunnel.zones[z].fit = s.tunnel.zones[z].fit
        ∧ t.tunnel.zones[z].settings = s.tunnel.zones[z].settings)
    ∧ t.tunnel.pressureMin = s.tunnel.pressureMin
    ∧ t.roll.settings = s.roll.settings
    ∧ t.notices.routes = s.notices.routes ∧ t.notices.mask = s.notices.mask
    ∧ t.seq.lowThreshold = s.seq.lowThreshold ∧ t.seq.hold = s.seq.hold
    ∧ t.port.address = s.port.address ∧ t.port.readWindows = s.port.readWindows
    ∧ t.port.writeWindows = s.port.writeWindows ∧ t.port.map = s.port.map
    ∧ t.port.period = s.port.period ∧ t.port.slotLength = s.port.slotLength

/-- The frame with DAMAGED set and its trailer formed anew (R5, R201). -/
def damaged (f : Frame) : Frame :=
  { f with flags := f.flags ||| 1, crc := frameCrc { f with flags := f.flags ||| 1 } }

/-- A quantity one frame older (R25, R27). -/
def aged (e : ConversionEntry) (q : Quantity) : Quantity :=
  let age := min (q.age + 1) 65535
  if q.lost = false ∧ e.staleLimit < age then { q with age := age, lost := true, lastRaw := none }
  else { q with age := age }

/-! ### The power-on columns of the reset tables -/

/-- The port at power-on (R18). -/
def PortAtPowerOn (straps : BitVec 4) (p : RingPort) : Prop :=
  p.state = .offline ∧ p.address = straps ∧ (∀ i : Fin 4, p.readWindows[i] = none ∧ p.writeWindows[i] = none)
    ∧ (∀ i : Fin 9, p.map[i] = none) ∧ p.period = 1000 ∧ p.slotLength = none ∧ p.badFrames = 0 ∧ p.missedCycles = 0
    ∧ p.lastError = .none ∧ p.previous = none ∧ p.syncCount = 0 ∧ p.runCount = 0 ∧ p.recoveryCount = 0
    ∧ p.deadline = none

/-- The sample converter at power-on (R30). R30 gives no group and no first line: 0 is the model's choice (log entry 30). -/
def ConverterAtPowerOn (c : Converter) : Prop :=
  ∀ q : Fin 16,
    c.entries[q] =
        { enabled := false, source := .frame, slotOffset := 0, validity := none, group := 0, firstLine := 0,
          bitOffset := 0, width := 1, signed := false, gray := false, numerator := 1, denominator := 1, offset := 0,
          maxChange := 0, staleLimit := 1 }
      ∧ c.quantities[q] = { value := 0, lost := true, fresh := false, age := 0, remainder := 0, lastRaw := none }

/-- The field line block at power-on (R41). -/
def LinesAtPowerOn (l : FieldLines) : Prop :=
  (∀ g : Fin 4, l.groups[g] = { locked := true, inhibit := none, held := false })
    ∧ (∀ n : Fin 32, l.lines[n] = { inverting := false, mode := .live, function := .none, manual := false })
    ∧ l.latch = 0 ∧ l.door = none

/-- The pattern store at power-on (R42, R55). -/
def StoreAtPowerOn (x : PatternStore) : Prop :=
  (∀ k : Fin 16, x.kinds[k] =
      if k = 1 then { multiplier := 2, limit := 5000, actions := { knife := true, tuck := false, reverse := false, mark := false } }
      else if k = 2 then { multiplier := 4, limit := 5000, actions := { knife := true, tuck := true, reverse := false, mark := false } }
      else if k = 3 then { multiplier := 4, limit := 5000, actions := { knife := true, tuck := true, reverse := true, mark := false } }
      else { multiplier := 0, limit := 0, actions := { knife := false, tuck := false, reverse := false, mark := false } })
    ∧ ∀ p : Fin 48, x.places[p] = none

/-- The fold calculator at power-on and after either RESET (R77): nothing queued or in flight, and no stroke. -/
def FoldsCleared (f : Calculator) : Prop :=
  inFlight f = 0 ∧ f.queue = [] ∧ f.context = none ∧ f.ratio = 4096 ∧ f.strokes = []

/-- The sequencer after either RESET and at power-on but for the low threshold (R101). -/
def SequencerCleared (q : Sequencer) : Prop :=
  q.queue = [] ∧ q.current = none ∧ q.openRecord = none ∧ q.hold = false ∧ q.serial = 0 ∧ q.cursor = none
    ∧ q.lastPanel = none

/-- All 64 records stand in FREE in index order (R118), and none is noted to lie behind the knife (log entry 47). -/
def ListsCleared (t : Track) : Prop :=
  t.free = List.finRange 64 ∧ t.runout = [] ∧ t.tunnel = [] ∧ t.exit = [] ∧ t.done = [] ∧ t.behind = []

/-- An unused record (R102): nothing in it is present. -/
def Unused (r : TrackRecord) : Prop :=
  r.kind = none ∧ r.isOpen = false ∧ r.inStart = none ∧ r.inLen = none ∧ r.outStart = none ∧ r.outLen = none
    ∧ r.pattern = none ∧ r.lotTag = none ∧ r.lotClass = none ∧ r.serial = none ∧ r.gapReason = none
    ∧ r.newLotTag = none
    ∧ r.transits = { leadEntry := none, leadExit := none, trailEntry := none, trailExit := none }
    ∧ r.offBand = 0
    ∧ r.marks = { misfold := false, underset := false, shortDwell := false, overdwell := false, spliced := false, aborted := false }
    ∧ r.disposition = none ∧ r.cutEmitted = false

/-- The governor's speeds and conditions after either RESET and at power-on (R139). -/
def SpeedsCleared (g : Governor) : Prop :=
  g.rampStarted = false ∧ g.command = 0 ∧ g.target = 0 ∧ g.source = .none ∧ g.vIn = 0 ∧ g.spindleA = 0
    ∧ g.spindleB = 0 ∧ g.trimCount = 0 ∧ g.dwellLimiting = false ∧ g.feedLimiting = false

/-- The settings of the governor at power-on (R139). -/
def SpeedSettingsAtPowerOn (g : Governor) : Prop :=
  g.vSet = 0 ∧ g.settings =
    { vMax := 10000, vInMax := 20000, aUp := 100, aDown := 100, aHalt := 1000, spliceLimit := 5000,
      degradeLimit := 5000, dancerSet := 500, kp := 0, trimLimit := 0 }

/-- The tunnel controller at power-on (R159). The note of a RESET RUN is the model's own, clear (log entry 43). -/
def TunnelAtPowerOn (t : Tunnel) : Prop :=
  (∀ z : Fin 6, t.zones[z] =
      { fit := none, state := .off, progress := 0, integrator := 0, opening := 0
        settings := { setPoint := 0, bandLow := 0, bandHigh := 0, hysteresis := 0, settleCount := 1, kp := 0, ki := 0, bias := 0, fallback := 0 } })
    ∧ t.pressureMin = 0 ∧ t.pressureLow = false ∧ t.pressureHold = false ∧ t.doorOpen = false ∧ t.restarted = false
    ∧ ∀ i : Fin 64, t.residues[i] = 0

/-- An EMPTY spindle holds nothing (R160). -/
def emptySpindle (diameterLost : Bool) : Spindle :=
  { state := .empty, roll := none, remaining := none, refLength := none, refPosition := none,
    diameterLost := diameterLost }

/-- The roll change controller at power-on (R177). -/
def RollsAtPowerOn (r : RollChange) : Prop :=
  r = { spindleA := emptySpindle false, spindleB := emptySpindle false, splice := .standby, attempts := 0,
        matchCount := 0, budget := 0, phase := none, span := none, paste := none
        settings := { tolerance := 200, matchTimeout := 8000, pasteTimeout := 3000 } }

/-- The routes at power-on (R187). -/
def RoutesAtPowerOn (n : Notices) : Prop :=
  ∀ i : Fin 40, n.routes[i].enabled = true
    ∧ n.routes[i].cls = (if i ∈ ([0, 3, 10, 11, 24, 32, 34] : List (Fin 40)) then .halt
        else if i ∈ ([4, 5, 6, 7, 8, 13, 20, 21, 22, 23, 29, 30, 31, 37] : List (Fin 40)) then .degrade else .note)
    ∧ n.routes[i].group = (if i = 39 then 3 else match n.routes[i].cls with
        | .halt => 0
        | .degrade => 1
        | .note => 2)

/-- Every block but the port at its power-on values (R30, R41, R55, R77, R101, R118, R139, R159, R177, R186, R196). -/
def BlocksAtPowerOn (s : State) : Prop :=
  ConverterAtPowerOn s.converter ∧ LinesAtPowerOn s.lines ∧ StoreAtPowerOn s.store ∧ FoldsCleared s.folds
    ∧ SequencerCleared s.seq ∧ s.seq.lowThreshold = 2
    ∧ ListsCleared s.track ∧ (∀ i : Fin 64, Unused s.track.records[i]) ∧ s.track.geometry = none
    ∧ s.gov.line = .configure ∧ SpeedsCleared s.gov ∧ SpeedSettingsAtPowerOn s.gov
    ∧ TunnelAtPowerOn s.tunnel ∧ RollsAtPowerOn s.roll ∧ s.takeOff = { gate := .good, cutEntry := none }
    ∧ RoutesAtPowerOn s.notices ∧ s.notices.pendingSet = 0 ∧ s.notices.mask = BitVec.allOnes 40

end Sys2Proof.Statements

open Sys2Proof Sys2Proof.Machine Sys2Proof.Statements Sys2Proof.Safety

/-! ### The queue of commands -/

/-- A step carries out the command that came first, on the state with the queue's rest. The queue is the model's own (log
entry 12). -/
def Obligations.StepRunsFrontCommand : Prop :=
  ∀ (c : Instr) (rest : List Instr) (s : State), s.pending = c :: rest → step s = exec c (s.withPending rest)

/-- With no command waiting the part idles. The model's choice (log entry 12): the spec has no queue of commands. -/
def Sys2Proof.Statements.StepWithNoCommandIdles : Prop := ∀ s : State, s.pending = [] → step s = .next s

/-! ### Power-on and RESET -/

/-- State.reset holds the value of every reset table's power-on column. That its straps read 0 and its pins are low is
the model's choice (log entry 2). -/
def Sys2Proof.Statements.ResetStateHoldsPowerOnValues : Prop :=
  PortAtPowerOn 0 State.reset.port ∧ BlocksAtPowerOn State.reset ∧ State.reset.pending = []

/-- POWER_ON gives every block its power-on values and samples the straps (R2 and the reset tables). What is kept
beside them, the pin levels and the waiting commands, is the model's (log entry 2). That no reply and no forwarded
frame stand then is log entry 24. -/
def Sys2Proof.Statements.PowerOnGivesPowerOnValues : Prop :=
  ∀ (straps : BitVec 4) (s : State), ∃ t, exec (.powerOn straps) s = .next t
    ∧ PortAtPowerOn straps t.port ∧ BlocksAtPowerOn t
    ∧ t.lines.pins = s.lines.pins ∧ t.timer = 0 ∧ t.reply = none ∧ t.downstream = none ∧ t.pending = s.pending

/-- RESET with scope RUN at rest gives every item its RUN column (R199); in RUN, STOPPING and a HALTED line above 0 it
is refused. -/
def Sys2Proof.Statements.ResetRunGivesRunColumn : Prop :=
  ∀ s : State, Served s →
    (¬LineStands s.gov → exec .resetRun s = refused s .state)
    ∧ (LineStands s.gov → ∃ t, exec .resetRun s = ok t []
        ∧ t.port = s.port ∧ t.converter = s.converter ∧ t.lines = s.lines ∧ t.store = s.store
        ∧ FoldsCleared t.folds
        ∧ SequencerCleared t.seq ∧ t.seq.lowThreshold = s.seq.lowThreshold
        ∧ ListsCleared t.track ∧ t.track.records = s.track.records ∧ t.track.geometry = s.track.geometry
        ∧ t.gov.line = s.gov.line ∧ SpeedsCleared t.gov ∧ t.gov.vSet = s.gov.vSet ∧ t.gov.settings = s.gov.settings
        ∧ (∀ z : Fin 6, t.tunnel.zones[z] = { s.tunnel.zones[z] with integrator := 0 })
        ∧ (∀ i : Fin 64, t.tunnel.residues[i] = 0)
        ∧ t.tunnel.pressureMin = s.tunnel.pressureMin ∧ t.tunnel.pressureLow = s.tunnel.pressureLow
        ∧ t.tunnel.pressureHold = s.tunnel.pressureHold ∧ t.tunnel.doorOpen = s.tunnel.doorOpen ∧ t.tunnel.restarted = true
        ∧ t.roll.spindleA = s.roll.spindleA ∧ t.roll.spindleB = s.roll.spindleB
        ∧ t.roll.splice = restingState s.roll ∧ t.roll.attempts = 0 ∧ t.roll.matchCount = 0
        ∧ t.roll.budget = budgetOf s.roll (geometryOf s).coreReserve
        ∧ t.roll.phase = none ∧ t.roll.span = none ∧ t.roll.paste = none ∧ t.roll.settings = s.roll.settings
        ∧ t.takeOff = { gate := .waste, cutEntry := none }
        ∧ t.notices = { s.notices with pendingSet := 0 }
        ∧ t.timer = s.timer ∧ t.downstream = s.downstream ∧ t.pending = s.pending)

/-- RESET with scope FULL gives every block but the port its power-on values in every line state (R200). -/
def Sys2Proof.Statements.ResetFullGivesPowerOnValues : Prop :=
  ∀ s : State, Served s → ∃ t, exec .resetFull s = ok t []
    ∧ t.port = s.port ∧ BlocksAtPowerOn t
    ∧ t.lines.pins = s.lines.pins ∧ t.timer = s.timer ∧ t.downstream = s.downstream ∧ t.pending = s.pending

/-! ### Requests of the ring port -/

/-- In OFFLINE, SYNCING and FAULT a service request passes untouched: nothing changes and no reply is written. That a
request stands as a command of its own is the model's choice (log entry 4). -/
def Obligations.RequestsPassUntouchedOutsideListenAndActive : Prop :=
  ∀ (i : Instr) (s : State), (Decode.requestBytes i).isSome = true → ¬Served s → exec i s = .next (s.withReply none)

/-- The line conditions that refuse GO_LISTEN and RESYNC (R10). -/
def Sys2Proof.Statements.LineMoves (g : Governor) : Prop :=
  g.line = .run ∨ g.line = .stopping ∨ (g.line = .halted ∧ g.command ≠ 0)

/-- GO_ACTIVE, GO_LISTEN and RESYNC move the port as R10 says, and change nothing else. -/
def Sys2Proof.Statements.PortRequestsMoveThePort : Prop :=
  ∀ s : State,
    (s.port.state = .active → exec .goActive s = ok s [])
    ∧ (s.port.state = .listen → s.gov.line = .configure → exec .goActive s = refused s .state)
    ∧ (s.port.state = .listen → s.gov.line ≠ .configure →
        exec .goActive s = ok (s.withPort { s.port with state := .active }) [])
    ∧ (Served s → LineMoves s.gov → exec .goListen s = refused s .state ∧ exec .resync s = refused s .state)
    ∧ (¬LineMoves s.gov → s.port.state = .listen → exec .goListen s = ok s [])
    ∧ (¬LineMoves s.gov → s.port.state = .active →
        exec .goListen s = ok (s.withPort
          { s.port with state := .listen, runCount := 0, deadline := some (s.timer + 4 * s.port.period) }) [])
    ∧ (¬LineMoves s.gov → Served s →
        exec .resync s = ok (s.withPort { s.port with state := .syncing, syncCount := 0, deadline := none }) [])

/-- IDENTIFY replies with the items of R17 in their order and then clears the counters when the flag is 1. The port
state is 0 for LISTEN and 1 for ACTIVE: the model's choice (log entry 6). -/
def Sys2Proof.Statements.IdentifyRepliesAndClears : Prop :=
  ∀ (clear : Nat) (s : State), Served s →
    (2 ≤ clear → exec (.identify clear) s = refused s .range)
    ∧ (clear < 2 → exec (.identify clear) s = ok
        (s.withPort { s.port with
          badFrames := if clear = 1 then 0 else s.port.badFrames
          missedCycles := if clear = 1 then 0 else s.port.missedCycles })
        (two 624 ++ [3, byte s.port.address.toNat, if s.port.state = .active then 1 else 0] ++ two s.port.period
          ++ (match s.port.slotLength with
              | some n => 1 :: two n
              | none => [0, 0, 0])
          ++ [byte (errorCode s.port.lastError)] ++ four s.port.badFrames ++ four s.port.missedCycles
          ++ [48, 16, 64, 16, 32, 8, 16, 32, 6, 40, 4, 4]))

/-- WRITE_WINDOW and WRITE_COMMAND_MAP write one window or one field's offset, in CONFIGURE alone (R11, R12). -/
def Sys2Proof.Statements.WindowAndMapWrites : Prop :=
  ∀ (s : State), Served s →
    (∀ (d n : Nat) (b : WindowArg) (f : Nat) (o : OptArg), s.gov.line ≠ .configure →
      exec (.writeWindow d n b) s = refused s .state ∧ exec (.writeCommandMap f o) s = refused s .state)
    ∧ (∀ (d : Nat) (n : Fin 4) (b l : Nat), s.gov.line = .configure → d < 2 → b ≤ l → l ≤ 1023 →
      exec (.writeWindow d n.val (.present b l)) s =
        ok (s.withPort (if d = 0 then
              { s.port with readWindows := s.port.readWindows.set n (some { base := b, limit := l }) }
            else { s.port with writeWindows := s.port.writeWindows.set n (some { base := b, limit := l }) })) [])
    ∧ (∀ (d : Nat) (n : Fin 4), s.gov.line = .configure → d < 2 →
      exec (.writeWindow d n.val .absent) s =
        ok (s.withPort (if d = 0 then { s.port with readWindows := s.port.readWindows.set n none }
            else { s.port with writeWindows := s.port.writeWindows.set n none })) [])
    ∧ (∀ (d n b l : Nat), s.gov.line = .configure → (2 ≤ d ∨ 4 ≤ n ∨ 1024 ≤ l ∨ l < b) →
      exec (.writeWindow d n (.present b l)) s = refused s .range)
    ∧ (∀ (d n : Nat), s.gov.line = .configure → (2 ≤ d ∨ 4 ≤ n) →
      exec (.writeWindow d n .absent) s = refused s .range)
    ∧ (∀ (f : Fin 9) (o : Nat), s.gov.line = .configure → o + fieldSize f ≤ 1024 →
      exec (.writeCommandMap f.val (.present o)) s =
        ok (s.withPort { s.port with map := s.port.map.set f (some o) }) [])
    ∧ (∀ (f : Fin 9), s.gov.line = .configure → f ≠ 8 →
      exec (.writeCommandMap f.val .absent) s = ok (s.withPort { s.port with map := s.port.map.set f none }) [])
    ∧ (∀ (f : Nat) (o : OptArg), s.gov.line = .configure → 9 ≤ f →
      exec (.writeCommandMap f o) s = refused s .range)
    ∧ (∀ (f : Fin 9) (o : Nat), s.gov.line = .configure → 1024 < o + fieldSize f →
      exec (.writeCommandMap f.val (.present o)) s = refused s .range)
    ∧ (s.gov.line = .configure → exec (.writeCommandMap 8 .absent) s = refused s .range)

/-- SET_CYCLE takes both values together, in CONFIGURE alone (R13). -/
def Sys2Proof.Statements.SetCycleTakesBothValues : Prop :=
  ∀ (period n : Nat) (s : State), Served s →
    exec (.setCycle period n) s =
      if s.gov.line ≠ .configure then refused s .state
      else if 250 ≤ period ∧ period ≤ 4000 ∧ 64 ≤ n ∧ n ≤ 1024 then
        ok (s.withPort { s.port with period := period, slotLength := some n }) []
      else refused s .range

/-! ### Requests of the sample converter and the field lines -/

/-- WRITE_CONVERSION replaces an entry and re-bases its quantity (R20); `entryOf` reads the operands. -/
def Sys2Proof.Statements.WriteConversionRebasesItsQuantity : Prop :=
  ∀ (n : Nat) (a : ConversionArgs) (s : State), Served s →
    (s.gov.line ≠ .configure → exec (.writeConversion n a) s = refused s .state)
    ∧ (s.gov.line = .configure → (16 ≤ n ∨ entryOf a = none) → exec (.writeConversion n a) s = refused s .range)
    ∧ (∀ (q : Fin 16) (e : ConversionEntry), s.gov.line = .configure → n = q.val → entryOf a = some e →
        exec (.writeConversion n a) s =
          ok (s.withConverter
            { entries := s.converter.entries.set q e,
              quantities := s.converter.quantities.set q
                { s.converter.quantities[q] with
                  lost := true, fresh := false, age := 0, remainder := 0, lastRaw := none } }) [])

/-- The entry that WRITE_CONVERSION stores holds its operands, field by field (section 2.2, R20). A field that is yes or no
is 0 for yes and 1 for no (log entry 6). -/
def Sys2Proof.Statements.ConversionEntryHoldsItsOperands : Prop :=
  ∀ (a : ConversionArgs) (e : ConversionEntry), entryOf a = some e →
    e.enabled = decide (a.enabled = 0) ∧ e.source = (if a.source = 0 then .frame else .lines)
      ∧ e.slotOffset = a.slotOffset
      ∧ e.validity = (match a.validity with
          | .present v => some v
          | _ => none)
      ∧ e.group = a.group ∧ e.firstLine = a.firstLine ∧ e.bitOffset = a.bitOffset ∧ e.width = a.width
      ∧ e.signed = decide (a.signed = 0) ∧ e.gray = decide (a.gray = 0)
      ∧ e.numerator = a.numerator ∧ e.denominator = a.denominator ∧ e.offset = a.offset
      ∧ e.maxChange = a.maxChange ∧ e.staleLimit = a.staleLimit

/-- Which operands of WRITE_CONVERSION are taken, source FRAME and source LINES (section 2.2, R20). Fields of the other
source are not checked (log entry 9), and a validity presence byte other than 0 and 1 is refused (log entry 5): the model's
choices. -/
def Sys2Proof.Statements.ConversionOperandsTaken : Prop :=
  ∀ a : ConversionArgs,
    (entryOf a).isSome = true ↔
      (a.enabled < 2 ∧ a.source < 2 ∧ a.signed < 2 ∧ a.gray < 2
        ∧ 1 ≤ a.width ∧ a.width ≤ 32 ∧ a.bitOffset ≤ 7 ∧ 1 ≤ a.numerator ∧ a.numerator ≤ 65535
        ∧ 1 ≤ a.denominator ∧ a.denominator ≤ 65535 ∧ -2147483648 ≤ a.offset ∧ a.offset ≤ 2147483647
        ∧ a.maxChange ≤ 2147483647 ∧ 1 ≤ a.staleLimit ∧ a.staleLimit ≤ 255
        ∧ (a.source = 0 → a.slotOffset ≤ 1023 ∧ a.slotOffset + (a.bitOffset + a.width + 7) / 8 ≤ 1024
            ∧ (a.validity = .absent ∨ ∃ v, v ≤ 1023 ∧ a.validity = .present v))
        ∧ (a.source = 1 → a.group ≤ 3 ∧ a.firstLine ≤ 7 ∧ a.bitOffset = 0
            ∧ a.group * 8 + a.firstLine + a.width ≤ 32))

/-- READ_QUANTITY reports the quantity in the form of R204; TAKE then clears the fresh flag (R29). -/
def Obligations.ReadQuantityReportsAndTakes : Prop :=
  ∀ (n m : Nat) (s : State), Served s →
    ((16 ≤ n ∨ 2 ≤ m) → exec (.readQuantity n m) s = refused s .range)
    ∧ (∀ q : Fin 16, n = q.val → m < 2 → ∀ x, x = s.converter.quantities[q] →
        exec (.readQuantity n m) s =
          ok (if m = 0 then
                s.withConverter { s.converter with quantities := s.converter.quantities.set q { x with fresh := false } }
              else s)
            ([byte n, byte ((if x.lost then 1 else 0) + (if x.fresh then 2 else 0) + (if x.lastRaw.isSome then 4 else 0))]
              ++ two x.age ++ four x.value.toNat ++ four (x.lastRaw.getD 0)
              ++ two (if n < 2 then x.remainder else 0) ++ [0, 0]))


/-- WRITE_LINE_SETUP replaces one group's setup, with every manual value of the group inactive (R37). -/
def Sys2Proof.Statements.WriteLineSetupReplacesTheGroup : Prop :=
  ∀ (n : Nat) (a : GroupArgs) (s : State), Served s →
    (s.gov.line ≠ .configure → exec (.writeLineSetup n a) s = refused s .state)
    ∧ (s.gov.line = .configure →
        (4 ≤ n ∨ 2 ≤ a.lock ∨ (∃ v, a.inhibit = .present v ∧ 32 ≤ v)
          ∨ (∃ i : Fin 8, 2 ≤ a.lines[i].polarity ∨ 3 ≤ a.lines[i].mode ∨ 14 ≤ a.lines[i].function)
          ∨ (∃ i j : Fin 8, i ≠ j ∧ a.lines[i].function = a.lines[j].function
              ∧ a.lines[i].function ≠ 0 ∧ a.lines[i].function ≠ 13)
          ∨ (∃ (i : Fin 8) (l : Fin 32), l.val / 8 ≠ n ∧ a.lines[i].function = functionCode s.lines.lines[l].function
              ∧ a.lines[i].function ≠ 0 ∧ a.lines[i].function ≠ 13)) →
        exec (.writeLineSetup n a) s = refused s .range)
    ∧ (∀ g : Fin 4, s.gov.line = .configure → n = g.val → a.lock < 2 →
        (a.inhibit = .absent ∨ ∃ v, a.inhibit = .present v ∧ v < 32) →
        (∀ i : Fin 8, a.lines[i].polarity < 2 ∧ a.lines[i].mode < 3 ∧ a.lines[i].function < 14) →
        (∀ i j : Fin 8, a.lines[i].function = a.lines[j].function →
          i = j ∨ a.lines[i].function = 0 ∨ a.lines[i].function = 13) →
        (∀ (i : Fin 8) (l : Fin 32), a.lines[i].function = functionCode s.lines.lines[l].function →
          l.val / 8 = n ∨ a.lines[i].function = 0 ∨ a.lines[i].function = 13) →
        ∃ L, exec (.writeLineSetup n a) s = ok (s.withLines L) []
          ∧ L.latch = s.lines.latch ∧ L.door = s.lines.door ∧ L.pins = s.lines.pins
          ∧ (∀ k : Fin 4, L.groups[k].held = s.lines.groups[k].held
              ∧ (k ≠ g → L.groups[k] = s.lines.groups[k]))
          ∧ L.groups[g].locked = decide (a.lock = 0)
          ∧ L.groups[g].inhibit.map Fin.val = optValue a.inhibit
          ∧ (∀ (i : Fin 8) (l : Fin 32), l.val = 8 * n + i.val → some L.lines[l] = lineSetupOf a.lines[i])
          ∧ ∀ l : Fin 32, l.val / 8 ≠ n → L.lines[l] = s.lines.lines[l])

/-- A line of WRITE_LINE_SETUP: polarity, read mode and function numbered as section 2.6 lists them (R197). -/
def Sys2Proof.Statements.LineSetupOperandsRead : Prop :=
  ∀ (p : Fin 2) (m : Fin 3) (f : Fin 14), ∃ x, lineSetupOf { polarity := p.val, mode := m.val, function := f.val } = some x
    ∧ x.inverting = decide (p = 1) ∧ x.manual = false
    ∧ x.mode = (if m = 0 then .live else if m = 1 then .latched else .grayLatched)
    ∧ functionCode x.function = f.val

/-- SET_LINES sets the manual values of the lines it names, all of them or none (R38). -/
def Sys2Proof.Statements.SetLinesSetsManualValues : Prop :=
  ∀ (ps : List (Nat × Nat)) (s : State), Served s →
    ((ps.length = 0 ∨ 32 < ps.length ∨ (∃ p ∈ ps, 32 ≤ p.1 ∨ 2 ≤ p.2) ∨ ¬(ps.map Prod.fst).Nodup) →
      exec (.setLines ps) s = refused s .range)
    ∧ (1 ≤ ps.length → ps.length ≤ 32 → (∀ p ∈ ps, p.1 < 32 ∧ p.2 < 2) → (ps.map Prod.fst).Nodup →
        ((∃ n : Fin 32, n.val ∈ ps.map Prod.fst ∧
            (s.lines.lines[n].function ≠ .manual ∨ s.lines.groups[groupOf n].locked = true)) →
          exec (.setLines ps) s = refused s .isProtected)
        ∧ ((∀ n : Fin 32, n.val ∈ ps.map Prod.fst →
            s.lines.lines[n].function = .manual ∧ s.lines.groups[groupOf n].locked = false) →
          ∃ L, exec (.setLines ps) s = ok (s.withLines L) []
            ∧ L.groups = s.lines.groups ∧ L.latch = s.lines.latch ∧ L.door = s.lines.door ∧ L.pins = s.lines.pins
            ∧ ∀ n : Fin 32, L.lines[n] = { s.lines.lines[n] with
                manual := if (n.val, 0) ∈ ps then true else if (n.val, 1) ∈ ps then false
                          else s.lines.lines[n].manual }))

/-! ### The requests that read -/

/-- A flag of a reply (log entry 6). -/
def Sys2Proof.Statements.flag (b : Bool) : List Byte := [if b then 1 else 0]

/-- A logical value of a reply: ACTIVE 0, INACTIVE 1 (log entry 6). -/
def Sys2Proof.Statements.active (b : Bool) : List Byte := [if b then 0 else 1]

/-- An optional value of a reply: its presence byte and its bytes, zeroes when it is absent (R197). -/
def Sys2Proof.Statements.optional (bytes : Nat → List Byte) (x : Option Nat) : List Byte :=
  match x with
  | some v => 1 :: bytes v
  | none => 0 :: (bytes 0)

/-- READ_LINES carries the items of R39 in their order and changes nothing. How flags and presence are coded is the
model's choice (log entry 6). -/
def Obligations.ReadLinesReportsEveryLine : Prop :=
  ∀ s : State, Served s → exec .readLines s = ok s
    (((List.finRange 4).flatMap fun g =>
        [if s.lines.groups[g].locked then 0 else 1]
          ++ optional (fun v => [byte v]) (s.lines.groups[g].inhibit.map Fin.val) ++ flag s.lines.groups[g].held)
      ++ ((List.finRange 32).flatMap fun n =>
        [byte (functionCode s.lines.lines[n].function)] ++ flag (lineDriven s n) ++ active (lineLive s n)
          ++ active (s.lines.latch.getLsbD n.val) ++ active s.lines.lines[n].manual))

/-- A group entry of a pattern, in 12 bytes (R197). -/
def Sys2Proof.Statements.groupEntry (g : FoldGroup) : List Byte :=
  four g.flatLead ++ [byte g.kind, byte g.count] ++ two g.pitch ++ two g.startDepth ++ two g.endDepth

/-- The totals and the CLAMPED attribute as a reply carries them. -/
def Sys2Proof.Statements.totalsEntry (t : Totals) (clamped : Bool) : List Byte :=
  four t.input ++ four t.output ++ two t.folds ++ two t.maxRatio ++ flag clamped

/-- READ_PATTERN carries the record, its totals, CLAMPED and the in-use flag, and changes nothing (R53). How flags and
presence are coded (log entry 6), and the order of the record's items with their group count (log entry 38), are the model's
choices. -/
def Obligations.ReadPatternReportsTheRecord : Prop :=
  ∀ (n : Nat) (s : State), Served s →
    ((n = 0 ∨ 48 < n) → exec (.readPattern n) s = refused s .range)
    ∧ (∀ p : Fin 48, n = p.val + 1 → s.store.places[p] = none → exec (.readPattern n) s = refused s .absent)
    ∧ (∀ (p : Fin 48) (x : Pattern), n = p.val + 1 → s.store.places[p] = some x →
        exec (.readPattern n) s = ok s
          ([byte n] ++ four x.leadIn ++ four x.leadOut ++ two x.minDwell ++ two (x.maxDwell.getD 0) ++ two x.tolerance
            ++ [byte x.lotClass, byte x.groups.length] ++ x.groups.flatMap groupEntry
            ++ totalsEntry x.totals x.clamped ++ flag (patternInUse s p)))

/-- READ_ORDERS carries the items of R99 in their order and changes nothing. The gap reason is numbered from 0 in the
order of R203: the model's choice (log entry 6). -/
def Sys2Proof.Statements.ReadOrdersReportsTheSequencer : Prop :=
  ∀ s : State, Served s → exec .readOrders s = ok s
    ([byte (kindCode (openKind s))] ++ optional (fun v => [byte v]) (s.seq.openRecord.map Fin.val)
      ++ optional (fun v => [byte v]) ((openGapReason s).map fun r => gapReasonCode (some r) - 1)
      ++ flag s.seq.hold ++ [byte s.seq.lowThreshold] ++ four s.seq.serial
      ++ (match s.seq.current with
          | none => [0, 0, 0, 0, 0, 0, 0, 0]
          | some c => [1, byte (c.run.pattern.val + 1)] ++ two c.run.lotTag ++ two c.run.count ++ two c.remaining)
      ++ [byte s.seq.queue.length]
      ++ s.seq.queue.flatMap fun r => [byte (r.pattern.val + 1)] ++ two r.count ++ two r.lotTag)

/-- The five lists in the order of R115: FREE, RUNOUT, TUNNEL, EXIT, DONE. -/
def Sys2Proof.Statements.listNumbered (t : Track) : Nat → List (Fin 64)
  | 0 => t.free
  | 1 => t.runout
  | 2 => t.tunnel
  | 3 => t.exit
  | _ => t.done

/-- READ_LIST carries a list's descriptor and its indices from head to tail, and changes nothing (R115, R106). That
Empty is 0 for yes and 1 for no, and how presence is coded, is the model's choice (log entry 6). -/
def Obligations.ReadListReportsTheList : Prop :=
  ∀ (n : Nat) (s : State), Served s →
    (5 ≤ n → exec (.readList n) s = refused s .range)
    ∧ (n < 5 → ∀ l, l = listNumbered s.track n →
        exec (.readList n) s = ok s
          (optional (fun v => [byte v]) (l.head?.map Fin.val) ++ optional (fun v => [byte v]) (l.getLast?.map Fin.val)
            ++ [byte l.length, if l = [] then 0 else 1] ++ l.map fun i => byte i.val))

/-- The 58 bytes of a track record standing in list `l`, with the edge distances `lead` and `trail` when it has them
(R204). -/
def Sys2Proof.Statements.recordEntry (i : Fin 64) (r : TrackRecord) (l : Nat) (edges : Option (Position × Position)) (lost : Bool) :
    List Byte :=
  [byte i.val, byte l, byte (kindCode r.kind),
   byte ((if r.isOpen then 1 else 0) + (if r.cutEmitted then 2 else 0) + (if r.inLen.isSome then 4 else 0)
      + (if r.transits.leadEntry.isSome then 8 else 0) + (if r.transits.leadExit.isSome then 16 else 0)
      + (if r.transits.trailEntry.isSome then 32 else 0) + (if r.transits.trailExit.isSome then 64 else 0)
      + (if edges.isSome then 128 else 0)),
   byte ((if r.marks.misfold then 1 else 0) + (if r.marks.underset then 2 else 0) + (if r.marks.shortDwell then 4 else 0)
      + (if r.marks.overdwell then 8 else 0) + (if r.marks.spliced then 16 else 0) + (if r.marks.aborted then 32 else 0)),
   byte (dispositionCode r.disposition), byte (gapReasonCode r.gapReason), byte (r.lotClass.getD 0),
   (match r.pattern with
    | some p => byte (p.val + 1)
    | none => 0),
   if lost then 1 else 0]
    ++ two ((r.lotTag.orElse fun _ => r.newLotTag).getD 0) ++ four (r.serial.getD 0)
    ++ four (r.inStart.getD 0).toNat ++ four (r.inLen.getD 0) ++ four (r.outStart.getD 0).toNat ++ four (r.outLen.getD 0)
    ++ four (r.transits.leadEntry.getD 0).toNat ++ four (r.transits.leadExit.getD 0).toNat
    ++ four (r.transits.trailEntry.getD 0).toNat ++ four (r.transits.trailExit.getD 0).toNat
    ++ two r.offBand
    ++ (match edges with
        | some e => four e.1.toNat ++ four e.2.toNat
        | none => [0, 0, 0, 0, 0, 0, 0, 0])

/-- READ_RECORD carries the record in the form of R204 and changes nothing (R116); for a record that stands in one list
alone (R105). -/
def Sys2Proof.Statements.ReadRecordReportsTheRecord : Prop :=
  ∀ (n : Nat) (s : State), Served s →
    (64 ≤ n → exec (.readRecord n) s = refused s .range)
    ∧ (ListsHoldEveryRecordOnce s → ∀ i : Fin 64, n = i.val → ∀ r, r = s.track.records[i] →
        ∀ edges, edges = (leadEdge (belt s) r, trailEdge (belt s) r) →
        (i ∈ s.track.free → exec (.readRecord n) s = ok s (recordEntry i r 0 none (beltLost s)))
        ∧ (i ∈ s.track.runout → exec (.readRecord n) s = ok s (recordEntry i r 1 (some edges) (beltLost s)))
        ∧ (i ∈ s.track.tunnel → exec (.readRecord n) s = ok s (recordEntry i r 2 (some edges) (beltLost s)))
        ∧ (i ∈ s.track.exit → exec (.readRecord n) s = ok s (recordEntry i r 3 (some edges) (beltLost s)))
        ∧ (i ∈ s.track.done → exec (.readRecord n) s = ok s (recordEntry i r 4 none (beltLost s))))

/-- READ_ZONES carries the items of R158 in their order and changes nothing. How flags and presence are coded is the
model's choice (log entry 6). -/
def Sys2Proof.Statements.ReadZonesReportsTheTunnel : Prop :=
  ∀ s : State, Served s → exec .readZones s = ok s
    (((List.finRange 6).flatMap fun z =>
        optional (fun v => [byte v]) (s.tunnel.zones[z].fit.map fun f => roleCode f.role)
          ++ optional four (s.tunnel.zones[z].fit.map ZoneFit.spanStart)
          ++ optional four (s.tunnel.zones[z].fit.map ZoneFit.spanEnd)
          ++ [byte (zoneStateCode s.tunnel.zones[z].state), byte s.tunnel.zones[z].progress]
          ++ four s.tunnel.zones[z].integrator ++ two s.tunnel.zones[z].opening
          ++ two (quantity s (zoneQuantity z)).value.toNat ++ flag (quantity s (zoneQuantity z)).lost)
      ++ two s.tunnel.pressureMin ++ flag s.tunnel.pressureLow ++ flag s.tunnel.pressureHold ++ flag s.tunnel.doorOpen
      ++ optional four ((setSection s.tunnel).map Prod.fst) ++ optional four ((setSection s.tunnel).map Prod.snd)
      ++ optional four ((setSection s.tunnel).map fun x => x.2 - x.1))

/-- What READ_ROLLS carries of one spindle (R176). -/
def Sys2Proof.Statements.spindleEntry (x : Spindle) : List Byte :=
  [byte (spindleStateCode x.state)] ++ optional two (x.roll.map Roll.lotTag) ++ optional two (x.roll.map Roll.core)
    ++ optional two (x.roll.map Roll.thickness) ++ optional four x.remaining ++ optional four x.refLength
    ++ optional four (x.refPosition.map BitVec.toNat) ++ flag x.diameterLost

/-- READ_ROLLS carries the items of R176 in their order and changes nothing. How flags and presence are coded is the
model's choice (log entry 6). -/
def Sys2Proof.Statements.ReadRollsReportsTheSpindles : Prop :=
  ∀ s : State, Served s → exec .readRolls s = ok s
    (spindleEntry s.roll.spindleA ++ spindleEntry s.roll.spindleB ++ [byte (spliceStateCode s.roll.splice)]
      ++ four s.roll.budget ++ [byte s.roll.attempts, byte s.roll.matchCount]
      ++ optional four (s.roll.span.map fun x => x.j0.toNat) ++ optional four (s.roll.span.map fun x => x.j1.toNat)
      ++ four s.roll.settings.tolerance ++ two s.roll.settings.matchTimeout ++ two s.roll.settings.pasteTimeout)

/-- A set of notice indices in 5 bytes, index `n` at bit `n` mod 8 of byte `n` div 8 (R197). -/
def Sys2Proof.Statements.five (x : NoticeSet) : List Byte :=
  [x.extractLsb' 0 8, x.extractLsb' 8 8, x.extractLsb' 16 8, x.extractLsb' 24 8, x.extractLsb' 32 8]

/-- READ_NOTICES carries the items of R194 in their order and changes nothing. How flags and presence are coded is the
model's choice (log entry 6). -/
def Obligations.ReadNoticesReportsTheBlock : Prop :=
  ∀ s : State, Served s → exec .readNotices s = ok s
    (five s.notices.pendingSet ++ five s.notices.mask
      ++ ((List.finRange 40).flatMap fun i =>
        [if s.notices.routes[i].enabled then 0 else 1, byte (classCode s.notices.routes[i].cls),
          byte s.notices.routes[i].group.val] ++ flag (decide (i = 0 ∨ i = 3 ∨ i = 24 ∨ i = 34)))
      ++ optional (fun v => [byte v]) ((lowestPending s.notices).map Fin.val) ++ [byte (pendingCount s.notices)]
      ++ ((List.finRange 4).flatMap fun g => flag (groupFlag s.notices g))
      ++ flag (haltPending s.notices) ++ flag (degradePending s.notices))


/-! ### The requests that write tables -/

/-- The range checks of WRITE_PATTERN in payload order (R48, section 3.2). -/
def Sys2Proof.Statements.patternOperands (n : Nat) (a : PatternArgs) : List Bool :=
  [decide (1 ≤ n ∧ n ≤ 48), decide (1000 ≤ a.leadIn ∧ a.leadIn ≤ 200000), decide (a.leadOut ≤ 200000),
   decide (10 ≤ a.minDwell ∧ a.minDwell ≤ 600),
   decide (a.maxDwell = 0 ∨ (a.minDwell ≤ a.maxDwell ∧ a.maxDwell ≤ 6000)), decide (a.tolerance ≤ 60000),
   decide (a.lotClass ≤ 255), decide (1 ≤ a.groups.length ∧ a.groups.length ≤ 12)]
    ++ a.groups.flatMap fun g =>
      [decide (g.flatLead ≤ 100000), decide (g.kind ≤ 15), decide (1 ≤ g.count ∧ g.count ≤ 250),
       decide (200 ≤ g.pitch ∧ g.pitch ≤ 10000), decide (g.startDepth ≤ 5000), decide (g.endDepth ≤ 5000)]

/-- The take-up check of R49 on a group: pitch + m × D does not exceed 9 × pitch, for the largest specified depth D. -/
def Sys2Proof.Statements.takesUp (kinds : Vector FoldKind 16) (g : FoldGroup) : Bool :=
  decide (g.pitch + (kindAt kinds g.kind).multiplier * (if g.count ≤ 1 then g.startDepth else max g.startDepth g.endDepth)
    ≤ 9 * g.pitch)

/-- Pattern place `p` is in use (R50): the current run has panels remaining and names it, a queued run names it, or a
PANEL record in RUNOUT, TUNNEL or EXIT does. -/
def Sys2Proof.Statements.InUse (s : State) (p : Fin 48) : Prop :=
  (∃ c, s.seq.current = some c ∧ 0 < c.remaining ∧ c.run.pattern = p)
    ∨ (∃ r ∈ s.seq.queue, r.pattern = p)
    ∨ ∃ i ∈ s.track.runout ++ s.track.tunnel ++ s.track.exit,
        s.track.records[i].kind = some .panel ∧ s.track.records[i].pattern = some p

/-- WRITE_PATTERN stores the record with its totals, or refuses and changes nothing: ranges first, then take-up and
output length, then the in-use test (R48 to R50). That a group's position counts from 0 (log entry 7), and that
violation 18 carries 0 as its second item (log entry 21), is the model's reading; that the reply's CLAMPED is 1 when it
holds is its choice (log entry 6). -/
def Obligations.WritePatternStoresOrRefuses : Prop :=
  ∀ (n : Nat) (a : PatternArgs) (s : State), Served s →
    (∀ k, firstFalse (patternOperands n a) = some k →
      exec (.writePattern n a) s = refused s .range 1 k (if 8 < k then (k - 9) / 6 else 0))
    ∧ (∀ (p : Fin 48) (g : Nat), n = p.val + 1 → firstFalse (patternOperands n a) = none →
        a.groups.findIdx? (fun g => !takesUp s.store.kinds g) = some g →
        exec (.writePattern n a) s = refused s .range 17 n g)
    ∧ (∀ (p : Fin 48) (t : Totals), n = p.val + 1 → firstFalse (patternOperands n a) = none →
        (∀ g ∈ a.groups, takesUp s.store.kinds g = true) →
        t = computeTotals s.store.kinds a.leadIn a.leadOut a.groups →
        (600000 < t.output → exec (.writePattern n a) s = refused s .range 18 n 0)
        ∧ (t.output ≤ 600000 → s.store.places[p] ≠ none → InUse s p →
            exec (.writePattern n a) s = refused s .inUse)
        ∧ (t.output ≤ 600000 → (s.store.places[p] = none ∨ ¬InUse s p) →
            ∀ c, c = isClamped s.store.kinds a.groups →
            ∀ s', s' = s.withStore { s.store with places := s.store.places.set p (some
                { leadIn := a.leadIn, leadOut := a.leadOut, groups := a.groups, minDwell := a.minDwell,
                  maxDwell := if a.maxDwell = 0 then none else some a.maxDwell, tolerance := a.tolerance,
                  lotClass := a.lotClass, totals := t, clamped := c }) } →
            exec (.writePattern n a) s = ok (if c then raiseNotice .patternClamped s' else s') (totalsEntry t c)))

/-- DELETE_PATTERN makes a place absent unless its pattern is in use, and changes nothing else; records that carry the
number keep it and READ_RECORD reports them as before, and an APPEND_RUN of the place is refused from then on (R52). -/
def Obligations.DeletePatternFreesThePlace : Prop :=
  ∀ (n : Nat) (s : State), Served s →
    ((n = 0 ∨ 48 < n) → exec (.deletePattern n) s = refused s .range)
    ∧ (∀ p : Fin 48, n = p.val + 1 →
        (s.store.places[p] = none → exec (.deletePattern n) s = refused s .absent)
        ∧ (s.store.places[p] ≠ none → InUse s p → exec (.deletePattern n) s = refused s .inUse)
        ∧ (s.store.places[p] ≠ none → ¬InUse s p → ∀ t, t = s.withStore { s.store with places := s.store.places.set p none } →
            exec (.deletePattern n) s = ok t []
            ∧ t.store.places[p] = none ∧ t.store.kinds = s.store.kinds
            ∧ (∀ q : Fin 48, q ≠ p → t.store.places[q] = s.store.places[q])
            ∧ (∀ k, k < 64 → ∃ b, exec (.readRecord k) s = ok s b ∧ exec (.readRecord k) t = ok t b)
            ∧ (∀ count tag, 1 ≤ count → count ≤ 65535 → tag ≤ 65535 →
                exec (.appendRun n count tag) t = refused t .absent)))

/-- WRITE_FOLD_KIND replaces a kind and recomputes the patterns that use it, or refuses and changes nothing (R43,
R44). That a group's position counts from 0 (log entry 7), and that violation 18 carries 0 as its second item (log
entry 21), is the model's reading. -/
def Obligations.WriteFoldKindRecomputesItsPatterns : Prop :=
  ∀ (n m l a : Nat) (s : State), Served s →
    (s.gov.line ≠ .configure → s.gov.line ≠ .stopped → exec (.writeFoldKind n m l a) s = refused s .state)
    ∧ ((s.gov.line = .configure ∨ s.gov.line = .stopped) → (16 ≤ n ∨ 4 < m ∨ 5000 < l ∨ 16 ≤ a) →
        exec (.writeFoldKind n m l a) s = refused s .range)
    ∧ (∀ (k : Fin 16) (kinds : Vector FoldKind 16), (s.gov.line = .configure ∨ s.gov.line = .stopped) →
        n = k.val → m ≤ 4 → l ≤ 5000 → a < 16 →
        kinds = s.store.kinds.set k { multiplier := m, limit := l, actions :=
          { knife := a.testBit 0, tuck := a.testBit 1, reverse := a.testBit 2, mark := a.testBit 3 } } →
        ∀ (p : Fin 48) (x : Pattern), s.store.places[p] = some x → usesKind x k = true →
        (∀ q : Fin 48, q < p → ∀ y, s.store.places[q] = some y → usesKind y k = true →
          (∀ g ∈ y.groups, takesUp kinds g = true)
            ∧ (computeTotals kinds y.leadIn y.leadOut y.groups).output ≤ 600000) →
        (∀ g, x.groups.findIdx? (fun g => !takesUp kinds g) = some g →
          exec (.writeFoldKind n m l a) s = refused s .range 17 (p.val + 1) g)
        ∧ ((∀ g ∈ x.groups, takesUp kinds g = true) →
            600000 < (computeTotals kinds x.leadIn x.leadOut x.groups).output →
          exec (.writeFoldKind n m l a) s = refused s .range 18 (p.val + 1) 0))
    ∧ (∀ (k : Fin 16) (kinds : Vector FoldKind 16), (s.gov.line = .configure ∨ s.gov.line = .stopped) →
        n = k.val → m ≤ 4 → l ≤ 5000 → a < 16 →
        kinds = s.store.kinds.set k { multiplier := m, limit := l, actions :=
          { knife := a.testBit 0, tuck := a.testBit 1, reverse := a.testBit 2, mark := a.testBit 3 } } →
        (∀ p : Fin 48, ∀ x, s.store.places[p] = some x → usesKind x k = true →
          (∀ g ∈ x.groups, takesUp kinds g = true)
            ∧ (computeTotals kinds x.leadIn x.leadOut x.groups).output ≤ 600000) →
        ∃ (t : State) (changed clamped : Nat) (places : Vector (Option Pattern) 48),
          exec (.writeFoldKind n m l a) s = ok t
            ([byte s.store.kinds[k].multiplier] ++ two s.store.kinds[k].limit
              ++ [byte (actionsCode s.store.kinds[k].actions), byte changed, byte clamped])
          ∧ (∀ p : Fin 48, places[p] = s.store.places[p].map fun x =>
              if usesKind x k then
                { x with totals := computeTotals kinds x.leadIn x.leadOut x.groups, clamped := isClamped kinds x.groups }
              else x)
          ∧ changed = ((List.finRange 48).filter fun p => decide (
              (s.store.places[p].map fun x => (x.totals, x.clamped)) ≠ (places[p].map fun x => (x.totals, x.clamped)))).length
          ∧ clamped = ((List.finRange 48).filter fun p => decide ((places[p].map Pattern.clamped) = some true)).length
          ∧ ((∃ p : Fin 48, (s.store.places[p].map Pattern.clamped) = some false ∧ (places[p].map Pattern.clamped) = some true) →
              t = raiseNotice .patternClamped (s.withStore { kinds := kinds, places := places }))
          ∧ ((∀ p : Fin 48, (s.store.places[p].map Pattern.clamped) = some false → (places[p].map Pattern.clamped) ≠ some true) →
              t = s.withStore { kinds := kinds, places := places }))

/-- The range checks of WRITE_GEOMETRY in table order (R109). -/
def Sys2Proof.Statements.geometryOperands (g : Geometry) : List Bool :=
  [decide (1 ≤ g.entry ∧ g.entry ≤ 10000000), decide (g.entry < g.exit ∧ g.exit ≤ 10000000),
   decide (g.exit < g.cut ∧ g.cut ≤ 10000000), decide (g.paster ≤ 10000000),
   decide (100 ≤ g.window ∧ g.window ≤ 200000), decide (100 ≤ g.cutWindow ∧ g.cutWindow ≤ 200000),
   decide (g.minGap ≤ 100000), decide (g.spliceMargin ≤ 50000000), decide (g.coreReserve ≤ 50000000),
   decide (1000 ≤ g.spliceLength ∧ g.spliceLength ≤ 1000000)]

/-- The geometry, the splice settings and the speed settings are written whole or not at all, and a refusal names the
first failing operand (R109, R175, R130). Where the relation of two operands counts is the model's reading (log entry
7); that the reply of WRITE_SPEED_LIMITS says by a 1 that a value was lowered is its choice (log entry 6). -/
def Sys2Proof.Statements.SettingsAreWrittenWhole : Prop :=
  ∀ s : State, Served s →
    (∀ g : Geometry, exec (.writeGeometry g) s =
      if s.gov.line ≠ .configure then refused s .state
      else match firstFalse (geometryOperands g) with
        | some k => refused s .range 1 k
        | none => ok (s.withTrack { s.track with geometry := some g }) [])
    ∧ (∀ tol match' paste : Nat, exec (.writeSpliceSettings tol match' paste) s =
        match firstFalse [decide (tol ≤ 100000), decide (100 ≤ match' ∧ match' ≤ 60000),
            decide (100 ≤ paste ∧ paste ≤ 60000)] with
        | some k => refused s .range 1 k
        | none => ok (s.withRoll { s.roll with
            settings := { tolerance := tol, matchTimeout := match', pasteTimeout := paste } }) [])
    ∧ (∀ x : SpeedSettings, exec (.writeSpeedLimits x) s =
        match firstFalse [decide (1 ≤ x.vMax ∧ x.vMax ≤ 1000000), decide (1 ≤ x.vInMax ∧ x.vInMax ≤ 1000000),
            decide (1 ≤ x.aUp ∧ x.aUp ≤ 100000), decide (1 ≤ x.aDown ∧ x.aDown ≤ 100000),
            decide (1 ≤ x.aHalt ∧ x.aHalt ≤ 100000), decide (x.spliceLimit ≤ 1000000),
            decide (x.degradeLimit ≤ 1000000), decide (x.dancerSet ≤ 1000), decide (x.kp ≤ 4095),
            decide (x.trimLimit ≤ 100000)] with
        | some k => refused s .range 1 k
        | none => ok (s.withGov { s.gov with
              settings := x, vSet := min s.gov.vSet x.vMax, command := min s.gov.command x.vMax })
            (four (min s.gov.vSet x.vMax) ++ four (min s.gov.command x.vMax)
              ++ flag (decide (x.vMax < s.gov.vSet ∨ x.vMax < s.gov.command))))

/-! ### Requests of the sequencer and the track block -/

/-- APPEND_RUN appends at the tail of the queue, in the order of refusals of R79. -/
def Sys2Proof.Statements.AppendRunJoinsTheTail : Prop :=
  ∀ (n count tag : Nat) (s : State), Served s →
    ((n = 0 ∨ 48 < n ∨ count = 0 ∨ 65535 < count ∨ 65535 < tag) → exec (.appendRun n count tag) s = refused s .range)
    ∧ (∀ p : Fin 48, n = p.val + 1 → 1 ≤ count → count ≤ 65535 → tag ≤ 65535 →
        exec (.appendRun n count tag) s =
          if s.store.places[p] = none then refused s .absent
          else if 16 ≤ s.seq.queue.length then refused s .full
          else ok (s.withSeq { s.seq with queue := s.seq.queue ++ [{ pattern := p, count := count, lotTag := tag }] })
            [byte (s.seq.queue.length + 1)])

/-- CANCEL_RUNS removes every queued run and keeps the current run; a pattern then counts as in use only through the
current run and the belt (R80). -/
def Obligations.CancelRunsEmptiesTheQueue : Prop :=
  ∀ s : State, Served s → ∃ t, t = s.withSeq { s.seq with queue := [] }
    ∧ exec .cancelRuns s = ok t [byte s.seq.queue.length]
    ∧ ∀ p : Fin 48, (patternInUse t p = true ↔ InUse t p) ∧ (InUse t p ↔
        (∃ c, s.seq.current = some c ∧ 0 < c.remaining ∧ c.run.pattern = p)
          ∨ ∃ i ∈ s.track.runout ++ s.track.tunnel ++ s.track.exit,
              s.track.records[i].kind = some .panel ∧ s.track.records[i].pattern = some p)

/-- HOLD_PANELS, RELEASE_PANELS, SET_ORDER_LOW and SET_PRESSURE_MIN write their one item (R94, R81, R149). -/
def Sys2Proof.Statements.SingleItemWrites : Prop :=
  ∀ s : State, Served s →
    exec .holdPanels s = ok (s.withSeq { s.seq with hold := true }) []
    ∧ exec .releasePanels s = ok (s.withSeq { s.seq with hold := false }) []
    ∧ (∀ n, exec (.setOrderLow n) s =
        if n ≤ 15 then ok (s.withSeq { s.seq with lowThreshold := n }) [] else refused s .range)
    ∧ (∀ n, exec (.setPressureMin n) s =
        if n ≤ 1000 then ok (s.withTunnel { s.tunnel with pressureMin := n }) [] else refused s .range)

/-- An optional operand of a payload. -/
def Sys2Proof.Statements.operand : Option Nat → OptArg
  | some n => .present n
  | none => .absent

/-- COLLECT takes the head of DONE to the tail of FREE and reports it as it then stands (R117). -/
def Sys2Proof.Statements.CollectReleasesTheHeadOfDone : Prop :=
  ∀ (e : Option Nat) (s : State), Served s → ∀ a, a = operand e →
    (∀ n, e = some n → 64 ≤ n → exec (.collect a) s = refused s .range)
    ∧ ((∀ n, e = some n → n < 64) → s.track.done = [] → exec (.collect a) s = refused s .empty)
    ∧ (∀ (i : Fin 64) (rest : List (Fin 64)), s.track.done = i :: rest →
        (∀ n, e = some n → n < 64 → n ≠ i.val → exec (.collect a) s = refused s .absent)
        ∧ ((e = none ∨ e = some i.val) →
            exec (.collect a) s =
              ok (s.withTrack { s.track with done := rest, free := s.track.free ++ [i] })
                (recordEntry i s.track.records[i] 0 none (beltLost s))))

/-! ### Requests of the line supervisor -/

/-- ENTER_CONFIG (R120) and LEAVE_CONFIG (R121) move the line between STOPPED and CONFIGURE; `leaveViolation` finds the
first failing check. -/
def Sys2Proof.Statements.ConfigurationIsEnteredAndLeft : Prop :=
  ∀ s : State, Served s →
    (s.gov.line = .stopped → exec .enterConfig s = ok (s.withGov { s.gov with line := .configure }) [])
    ∧ (s.gov.line = .configure → exec .enterConfig s = ok s [])
    ∧ (s.gov.line ≠ .stopped → s.gov.line ≠ .configure → exec .enterConfig s = refused s .state)
    ∧ (s.gov.line ≠ .configure → exec .leaveConfig s = refused s .state)
    ∧ (s.gov.line = .configure → leaveViolation s = none →
        exec .leaveConfig s = ok (s.withGov { s.gov with line := .stopped }) [])
    ∧ (∀ v a b, s.gov.line = .configure → leaveViolation s = some (v, a, b) →
        exec .leaveConfig s = refused s .range v a b)

/-- `n` bytes from offset `o` lie wholly within one present window. -/
def Sys2Proof.Statements.InOneWindow (ws : Vector (Option Window) 4) (o n : Nat) : Prop :=
  ∃ (i : Fin 4) (w : Window), ws[i] = some w ∧ w.base ≤ o ∧ o + n ≤ w.limit + 1

/-- A line that LEAVE_CONFIG lets pass: what every check of R14, R40, R110, R121 and R142 asks of the configuration. -/
def Obligations.LeaveConfigPassesExactlySoundConfigurations : Prop :=
  ∀ s : State, leaveViolation s = none ↔
    ∃ (n : Nat) (g : Geometry), s.port.slotLength = some n ∧ s.track.geometry = some g
      ∧ (∀ (i : Fin 4) (w : Window), (s.port.readWindows[i] = some w ∨ s.port.writeWindows[i] = some w) → w.limit < n)
      ∧ s.port.map[(8 : Fin 9)] ≠ none
      ∧ (∀ (f : Fin 9) (o : Nat), s.port.map[f] = some o → InOneWindow s.port.writeWindows o (fieldSize f))
      ∧ (∀ (f k : Fin 9) (o p : Nat), f < k → s.port.map[f] = some o → s.port.map[k] = some p →
          o + fieldSize f ≤ p ∨ p + fieldSize k ≤ o)
      ∧ (∀ q : Fin 16, ∀ e, e = s.converter.entries[q] → e.enabled = true → e.source = .frame →
          InOneWindow s.port.readWindows e.slotOffset ((e.bitOffset + e.width + 7) / 8)
            ∧ ∀ v, e.validity = some v → InOneWindow s.port.readWindows v 1)
      ∧ (∀ q : Fin 16, ∀ e, e = s.converter.entries[q] → e.enabled = true → e.source = .lines →
          ∀ l : Fin 32, e.group * 8 + e.firstLine ≤ l.val → l.val < e.group * 8 + e.firstLine + e.width →
            s.lines.lines[l].function = .none
              ∧ s.lines.lines[l].mode = (if e.gray then ReadMode.grayLatched else ReadMode.latched))
      ∧ (∀ z : Fin 6, ∀ f, s.tunnel.zones[z].fit = some f → g.entry ≤ f.spanStart ∧ f.spanEnd ≤ g.exit)
      ∧ (∀ y z : Fin 6, ∀ a b, y < z → s.tunnel.zones[y].fit = some a → s.tunnel.zones[z].fit = some b →
          a.spanEnd ≤ b.spanStart ∨ b.spanEnd ≤ a.spanStart)
      ∧ firstBreak (sortByStart ((fittedZones s.tunnel).filter fun z => decide (z.2.role = .set))) = none
      ∧ s.converter.entries[(0 : Fin 16)].enabled = true ∧ s.converter.entries[(1 : Fin 16)].enabled = true

/-- The position a reaches b: the test of section 0.3.2. -/
def Sys2Proof.Statements.Reaches (a b : Position) : Prop := (a - b).toNat < 2147483648

/-- The out_start of a record opened now: that of the record allocated last, when one still stands in RUNOUT, TUNNEL, EXIT
or DONE and BELT_POS has not reached its out_start, and BELT_POS otherwise (R107). -/
def Sys2Proof.Statements.IsOpeningOutStart (s : State) (p : Position) : Prop :=
  (∀ j, (s.track.done ++ s.track.exit ++ s.track.tunnel ++ s.track.runout).getLast? = some j →
    ∀ o, o = s.track.records[j].outStart.getD 0 →
      (Reaches (belt s) o → p = belt s) ∧ (¬Reaches (belt s) o → p = o))
  ∧ (s.track.done ++ s.track.exit ++ s.track.tunnel ++ s.track.runout = [] → p = belt s)

/-- START opens a RESTART gap and puts the line in RUN when its six conditions hold, and otherwise names the first that
fails (R122, R95); the GAP's out_start is that of R107. -/
def Obligations.StartOpensTheRestartGap : Prop :=
  ∀ (s : State), Served s →
    (∀ k, firstFalse [decide (s.gov.line = .stopped), decide (s.port.state = .active), !haltPending s.notices,
          decide (s.roll.spindleA.state = .active ∨ s.roll.spindleB.state = .active),
          !infeedLost s && !beltLost s, decide (s.track.free ≠ [])] = some k →
      exec .start s = refused s .state 20 k)
    ∧ (∀ (i : Fin 64) (rest : List (Fin 64)), s.gov.line = .stopped → s.port.state = .active →
        haltPending s.notices = false → (s.roll.spindleA.state = .active ∨ s.roll.spindleB.state = .active) →
        infeedLost s = false → beltLost s = false → s.track.free = i :: rest →
        ∃ r : TrackRecord,
          exec .start s = ok
            ((((s.withTrack { s.track with free := rest, runout := s.track.runout ++ [i],
                                           records := s.track.records.set i r }).withSeq
                { s.seq with openRecord := some i }).withFolds { s.folds with ratio := 4096 }).withGov
              { s.gov with line := .run }) []
          ∧ r.kind = some .gap ∧ r.isOpen = true ∧ r.gapReason = some .restart ∧ r.inStart = some (infeed s)
          ∧ (∃ o, r.outStart = some o ∧ IsOpeningOutStart s o)
          ∧ r.inLen = none ∧ r.outLen = none ∧ r.pattern = none ∧ r.lotTag = none ∧ r.lotClass = none
          ∧ r.serial = none ∧ r.newLotTag = none ∧ r.transits = Transits.none ∧ r.offBand = 0
          ∧ r.marks = Marks.empty ∧ r.disposition = none ∧ r.cutEmitted = false)

/-- STOP (R123, R96): the line enters STOPPING, the ramp starts at once unless a PANEL is open, and an open GAP takes the
reason STOP. -/
def Sys2Proof.Statements.StopBeginsTheControlledStop : Prop :=
  ∀ s : State, Served s →
    (s.gov.line = .stopping → exec .stop s = ok s [])
    ∧ (s.gov.line ≠ .run → s.gov.line ≠ .stopping → exec .stop s = refused s .state)
    ∧ (s.gov.line = .run → openKind s ≠ some .gap →
        exec .stop s = ok (s.withGov { s.gov with line := .stopping, rampStarted := decide (openKind s ≠ some .panel) }) [])
    ∧ (∀ i : Fin 64, s.gov.line = .run → s.seq.openRecord = some i → s.track.records[i].kind = some .gap →
        exec .stop s = ok
          ((s.withGov { s.gov with line := .stopping, rampStarted := true }).withTrack
            { s.track with records := s.track.records.set i { s.track.records[i] with gapReason := some .stop } }) [])

/-- ACK_HALT takes a line that stands in HALTED with no HALT-class notice pending to STOPPED, and a splice that waits or
matches to its resting state; it touches no notice, run, queue or hold, and no record is open in such a line (R128, R174).
That the speed is named where both conditions hold is the model's choice (log entry 40). -/
def Obligations.AckHaltLeavesTheHalt : Prop :=
  ∀ s : State, Served s →
    (exec .ackHalt s =
      if s.gov.line ≠ .halted then refused s .state
      else if s.gov.command ≠ 0 then refused s .state 20 1
      else if haltPending s.notices then refused s .state 20 2
      else ok
        ((s.withGov { s.gov with line := .stopped, rampStarted := false }).withRoll
          (if s.roll.splice = .armed ∨ s.roll.splice = .matching then
            { s.roll with splice := restingState s.roll, matchCount := 0 } else s.roll)) [])
    ∧ (NothingOpenAtRest s → s.gov.line = .halted → s.gov.command = 0 → s.seq.openRecord = none)

/-- SET_SPEED takes the speed, or V_max when the speed is above it (R129). -/
def Sys2Proof.Statements.SetSpeedIsClampedToMaximum : Prop :=
  ∀ (v : Nat) (s : State), Served s →
    (1000000 < v → exec (.setSpeed v) s = refused s .range)
    ∧ (v ≤ 1000000 → v ≤ s.gov.settings.vMax →
        exec (.setSpeed v) s = ok (s.withGov { s.gov with vSet := v }) (four v))
    ∧ (v ≤ 1000000 → s.gov.settings.vMax < v →
        exec (.setSpeed v) s = .next ((s.withGov { s.gov with vSet := s.gov.settings.vMax }).withReply
          (some { status := .okClamped, payload := four s.gov.settings.vMax })))


/-! ### Requests of the tunnel, the rolls and the notices -/

/-- The checks of WRITE_ZONE on its operands in payload order, for a zone with role and span present (R141). -/
def Sys2Proof.Statements.zoneOperands (n role start stop : Nat) (a : ZoneArgs) : List Bool :=
  [decide (1 ≤ n ∧ n ≤ 6), decide (role ≤ 2), decide (start ≤ 10000000), decide (stop ≤ 10000000 ∧ start < stop),
   decide (a.setPoint ≤ 2500 ∧ a.bandLow ≤ a.setPoint ∧ a.setPoint ≤ a.bandHigh),
   decide (a.bandLow ≤ 2500 ∧ a.bandLow ≤ a.bandHigh), decide (a.bandHigh ≤ 2500), decide (a.hysteresis ≤ 500),
   decide (1 ≤ a.settleCount ∧ a.settleCount ≤ 255), decide (a.kp ≤ 4095), decide (a.ki ≤ 4095),
   decide (a.bias ≤ 1000), decide (a.fallback ≤ 1000)]

/-- The settings that WRITE_ZONE writes in any line state. -/
def Sys2Proof.Statements.settingsOf (a : ZoneArgs) : ZoneSettings :=
  { setPoint := a.setPoint, bandLow := a.bandLow, bandHigh := a.bandHigh, hysteresis := a.hysteresis,
    settleCount := a.settleCount, kp := a.kp, ki := a.ki, bias := a.bias, fallback := a.fallback }

/-- The state with one zone replaced. -/
def Sys2Proof.Statements.withZone (s : State) (z : Fin 6) (x : Zone) : State :=
  s.withTunnel { s.tunnel with zones := s.tunnel.zones.set z x }

/-- WRITE_ZONE fits, refits or unfits a zone and writes its settings; role and span change in CONFIGURE alone (R141).
Where the relation of two operands counts is the model's reading (log entry 7). -/
def Sys2Proof.Statements.WriteZoneReplacesTheZone : Prop :=
  ∀ (n : Nat) (a : ZoneArgs) (s : State), Served s →
    (∀ r x y, a.role = .present r → a.spanStart = .present x → a.spanEnd = .present y →
      (∀ k, firstFalse (zoneOperands n r x y a) = some k → exec (.writeZone n a) s = refused s .range 1 k)
      ∧ (∀ (z : Fin 6) (role : ZoneRole), n = z.val + 1 → firstFalse (zoneOperands n r x y a) = none → roleCode role = r →
          ∀ fit, fit = some { role := role, spanStart := x, spanEnd := y } →
          exec (.writeZone n a) s =
            if s.gov.line ≠ .configure ∧ fit ≠ s.tunnel.zones[z].fit then refused s .state
            else ok (withZone s z { s.tunnel.zones[z] with fit := fit, settings := settingsOf a }) []))
    ∧ (a.role = .absent → a.spanStart = .absent → a.spanEnd = .absent →
      (∀ k, firstFalse (zoneOperands n 0 0 1 a) = some k → exec (.writeZone n a) s = refused s .range 1 k)
      ∧ (∀ z : Fin 6, n = z.val + 1 → firstFalse (zoneOperands n 0 0 1 a) = none →
          exec (.writeZone n a) s =
            if s.gov.line ≠ .configure ∧ s.tunnel.zones[z].fit ≠ none then refused s .state
            else ok (withZone s z
              { s.tunnel.zones[z] with fit := none, settings := settingsOf a, state := .off, opening := 0 }) []))
    ∧ (((a.role = .absent) ≠ (a.spanStart = .absent) ∨ (a.spanStart = .absent) ≠ (a.spanEnd = .absent)) →
        ∃ k, exec (.writeZone n a) s = refused s .range 1 k)

/-- ZONE_ENABLE switches a fitted zone ON or OFF (R144). -/
def Sys2Proof.Statements.ZoneEnableSwitchesTheZone : Prop :=
  ∀ (n x : Nat) (s : State), Served s →
    ((n = 0 ∨ 6 < n ∨ 2 ≤ x) → exec (.zoneEnable n x) s = refused s .range)
    ∧ (∀ z : Fin 6, n = z.val + 1 → x < 2 → s.tunnel.zones[z].fit = none →
        exec (.zoneEnable n x) s = refused s .absent)
    ∧ (∀ z : Fin 6, n = z.val + 1 → x < 2 → s.tunnel.zones[z].fit ≠ none → ∀ old, old = s.tunnel.zones[z] →
        exec (.zoneEnable n x) s = ok (withZone s z
          (if x = 1 then { old with state := .off, progress := 0, opening := 0 }
           else if old.state = .off then { old with state := .warming, progress := 0, integrator := 0 }
           else old)) [])

/-- The controller with the record of one spindle replaced. -/
def Sys2Proof.Statements.withSpindle (r : RollChange) (n : SpindleName) (x : Spindle) : RollChange :=
  match n with
  | .a => { r with spindleA := x }
  | .b => { r with spindleB := x }

/-- READY when one spindle is ACTIVE and the other LOADED, STANDBY otherwise (R166). -/
def Sys2Proof.Statements.atRestState (r : RollChange) : SpliceState :=
  if (r.spindleA.state = .active ∧ r.spindleB.state = .loaded)
      ∨ (r.spindleA.state = .loaded ∧ r.spindleB.state = .active) then .ready else .standby

/-- Spindle A is 0, spindle B is 1 (R197). -/
def Sys2Proof.Statements.spindleNumber : SpindleName → Nat
  | .a => 0
  | .b => 1

/-- LOAD_ROLL puts a roll on an EMPTY spindle whose READY line reads active (R161). -/
def Sys2Proof.Statements.LoadRollTakesTheRoll : Prop :=
  ∀ (k tag core thick thr : Nat) (s : State), Served s →
    ((2 ≤ k ∨ 65535 < tag ∨ core < 5000 ∨ 20000 < core ∨ thick < 20 ∨ 2000 < thick ∨ 2 ≤ thr) →
      exec (.loadRoll k tag core thick thr) s = refused s .range)
    ∧ (∀ n : SpindleName, k = spindleNumber n →
        tag ≤ 65535 → 5000 ≤ core → core ≤ 20000 → 20 ≤ thick → thick ≤ 2000 → thr < 2 →
        ((spindle s.roll n).state ≠ .empty ∨ inputReads s (readyInput n) = false →
          exec (.loadRoll k tag core thick thr) s = refused s .state)
        ∧ ((spindle s.roll n).state = .empty → inputReads s (readyInput n) = true →
          ∀ st : SpindleState, st = (if thr = 1 ∧ s.roll.spindleA.state ≠ .active ∧ s.roll.spindleB.state ≠ .active
              then .active else .loaded) →
          ∀ r, r = withSpindle s.roll n { spindle s.roll n with
              state := st, roll := some { lotTag := tag, core := core, thickness := thick }, remaining := none,
              refLength := none, refPosition := none } →
          exec (.loadRoll k tag core thick thr) s =
            ok (s.withRoll { r with
                attempts := 0
                splice := if s.roll.splice = .standby ∨ s.roll.splice = .ready ∨ s.roll.splice = .failed
                  then atRestState r else s.roll.splice })
              [byte (spindleStateCode st)]))

/-- UNLOAD_ROLL empties a spindle (R162). The budget of a line that then has no ACTIVE spindle becomes 0 (R165); that it
does so at the request is the model's choice (log entry 17). -/
def Sys2Proof.Statements.UnloadRollEmptiesTheSpindle : Prop :=
  ∀ (k : Nat) (s : State), Served s →
    (2 ≤ k → exec (.unloadRoll k) s = refused s .range)
    ∧ (∀ n : SpindleName, k = spindleNumber n →
        ((spindle s.roll n).state = .empty
            ∨ ((spindle s.roll n).state = .loaded ∧ (s.roll.splice = .matching ∨ s.roll.splice = .paste))
            ∨ ((spindle s.roll n).state = .active
                ∧ (¬LineStands s.gov ∨ s.roll.splice = .matching ∨ s.roll.splice = .paste ∨ s.roll.splice = .clear)) →
          exec (.unloadRoll k) s = refused s .state)
        ∧ (((spindle s.roll n).state = .expired
            ∨ ((spindle s.roll n).state = .loaded ∧ s.roll.splice ≠ .matching ∧ s.roll.splice ≠ .paste)
            ∨ ((spindle s.roll n).state = .active ∧ LineStands s.gov ∧ s.roll.splice ≠ .matching
                ∧ s.roll.splice ≠ .paste ∧ s.roll.splice ≠ .clear)) →
          ∀ r, r = withSpindle s.roll n (emptySpindle (spindle s.roll n).diameterLost) →
          exec (.unloadRoll k) s =
            ok (s.withRoll { r with
              splice := if s.roll.splice = .standby ∨ s.roll.splice = .ready ∨ s.roll.splice = .armed
                then atRestState r else s.roll.splice
              budget := if r.spindleA.state = .active ∨ r.spindleB.state = .active then s.roll.budget else 0 }) []))

/-- SPLICE_CANCEL takes an ARMED or MATCHING controller to its resting state (R173). -/
def Sys2Proof.Statements.SpliceCancelRestsTheController : Prop :=
  ∀ s : State, Served s →
    exec .spliceCancel s =
      if s.roll.splice = .armed ∨ s.roll.splice = .matching then
        ok (s.withRoll { s.roll with splice := atRestState s.roll, matchCount := 0 }) []
      else refused s .state

/-- WRITE_NOTICE_ROUTE replaces a route; a fixed notice keeps its enable and its class (R190). A route is enabled by 0
and disabled by 1, in the operand and in the reply: the model's choice (log entry 6). -/
def Sys2Proof.Statements.WriteNoticeRouteReplacesTheRoute : Prop :=
  ∀ (n e c g : Nat) (s : State), Served s →
    ((40 ≤ n ∨ 2 ≤ e ∨ 3 ≤ c ∨ 4 ≤ g) → exec (.writeNoticeRoute n e c g) s = refused s .range)
    ∧ (∀ (i : Fin 40) (k : Fin 4) (cls : NoticeClass), n = i.val → e < 2 → g = k.val → classCode cls = c →
        ((i = 0 ∨ i = 3 ∨ i = 24 ∨ i = 34) → (e = 1 ∨ cls ≠ .halt) →
          exec (.writeNoticeRoute n e c g) s = refused s .isProtected)
        ∧ (((i ≠ 0 ∧ i ≠ 3 ∧ i ≠ 24 ∧ i ≠ 34) ∨ (e = 0 ∧ cls = .halt)) →
          exec (.writeNoticeRoute n e c g) s =
            ok (s.withNotices { s.notices with
                routes := s.notices.routes.set i { enabled := decide (e = 0), cls := cls, group := k } })
              ([if s.notices.routes[i].enabled then 0 else 1, byte (classCode s.notices.routes[i].cls),
                byte s.notices.routes[i].group.val] ++ flag (s.notices.pendingSet.getLsbD n))))

/-- SET_REPORT_MASK and CLEAR_NOTICES write the mask and the pending set, and nothing else (R191, R193). -/
def Sys2Proof.Statements.MaskAndClearing : Prop :=
  ∀ (x : NoticeSet) (s : State), Served s →
    exec (.setReportMask x) s = ok (s.withNotices { s.notices with mask := x }) (five s.notices.mask)
    ∧ ∃ left removed : NoticeSet,
        exec (.clearNotices x) s = ok (s.withNotices { s.notices with pendingSet := left }) (five removed ++ five left)
        ∧ ∀ i : Fin 40, (left.getLsbD i.val = (isPending s.notices i && !x.getLsbD i.val))
            ∧ (removed.getLsbD i.val = (isPending s.notices i && x.getLsbD i.val))

/-- RAISE_TEST raises TEST; routed to HALT in RUN or STOPPING it halts the line at the request (R195, R188, R189,
R126, R67, R174). That the source is HALT from the entry on (log entry 35), and that the reply says by a 1 that TEST is
pending (log entry 6), are the model's choices. -/
def Obligations.RaiseTestRaisesTest : Prop :=
  ∀ s : State, Served s → ∃ (t : State) (p : Bool), exec .raiseTest s = ok t (flag p)
    ∧ p = isPending t.notices 39
    ∧ (s.notices.routes[(39 : Fin 40)].enabled = false → t = s)
    ∧ (s.notices.routes[(39 : Fin 40)].enabled = true →
        p = true
        ∧ (∀ i : Fin 40, i ≠ 39 → isPending t.notices i = isPending s.notices i)
        ∧ t.notices.routes = s.notices.routes ∧ t.notices.mask = s.notices.mask
        ∧ ((s.notices.routes[(39 : Fin 40)].cls ≠ .halt ∨ (s.gov.line ≠ .run ∧ s.gov.line ≠ .stopping)) →
            t = s.withNotices t.notices)
        ∧ (s.notices.routes[(39 : Fin 40)].cls = .halt → (s.gov.line = .run ∨ s.gov.line = .stopping) →
            t.gov = { s.gov with line := .halted, rampStarted := false, target := 0, source := .halt }
            ∧ t.folds.queue = [] ∧ inFlight t.folds = 0 ∧ t.folds.context = none ∧ t.folds.ratio = 4096
            ∧ t.seq.cursor = none ∧ t.seq.queue = s.seq.queue ∧ t.seq.current = s.seq.current
            ∧ t.seq.hold = s.seq.hold
            ∧ (s.roll.splice = .matching → t.roll.splice = .armed ∧ t.roll.matchCount = 0)
            ∧ (s.roll.splice ≠ .matching → t.roll.splice = s.roll.splice)
            ∧ (0 < s.gov.command → t.seq.openRecord = s.seq.openRecord ∧ t.track = s.track)
            ∧ (s.gov.command = 0 → t.seq.openRecord = none)
            ∧ t.port = s.port ∧ t.converter = s.converter ∧ t.lines = s.lines ∧ t.store = s.store
            ∧ t.tunnel = s.tunnel ∧ t.takeOff = s.takeOff))

/-- A record that stands open in HALTED closes once the speed command is 0: a PANEL with measured lengths and the mark
ABORTED, a GAP or SPLICE with its measured length (R98). -/
def Obligations.HaltClosesTheOpenRecord : Prop :=
  ∀ (s : State) (i : Fin 64), s.seq.openRecord = some i → ∃ r : TrackRecord,
    (closeHalted s).seq = { s.seq with openRecord := none }
    ∧ (closeHalted s).track = { s.track with records := s.track.records.set i r }
    ∧ r.isOpen = false ∧ r.kind = s.track.records[i].kind ∧ r.inStart = s.track.records[i].inStart
    ∧ r.outStart = s.track.records[i].outStart ∧ r.inLen = some (infeed s - inStartOf s.track.records[i]).toNat
    ∧ (s.track.records[i].kind = some .panel →
        r.outLen = some (belt s - outStartOf s.track.records[i]).toNat
        ∧ r.marks.aborted = true ∧ r.marks.misfold = s.track.records[i].marks.misfold
        ∧ r.marks.underset = s.track.records[i].marks.underset)
    ∧ (s.track.records[i].kind ≠ some .panel →
        r.outLen = r.inLen ∧ r.marks = s.track.records[i].marks ∧ (closeHalted s).roll = s.roll)

/-- A presence byte other than 0 and 1 is refused with RANGE. The model's reading of R197 (log entry 5). -/
def Sys2Proof.Statements.MalformedPresenceIsRefused : Prop :=
  ∀ (k n d : Nat) (s : State), Served s →
    exec (.collect (.malformed k)) s = refused s .range
    ∧ (s.gov.line = .configure → exec (.writeWindow d n (.malformed k)) s = refused s .range
        ∧ exec (.writeCommandMap n (.malformed k)) s = refused s .range)
    ∧ (∀ a : GroupArgs, s.gov.line = .configure → a.inhibit = .malformed k →
        exec (.writeLineSetup n a) s = refused s .range)


/-! ### Frames -/

/-- The last error code and the missed-cycle counter after a good frame (R4). -/
def Sys2Proof.Statements.examined (p : RingPort) (f : Frame) : ErrorCode × Nat :=
  match p.previous with
  | none => (p.lastError, p.missedCycles)
  | some (c, t) =>
    if (f.cycle - c).toNat ≠ 1 then (.sequence, min (p.missedCycles + ((f.cycle - c).toNat - 1)) 4294967295)
    else if 3 * p.period < 2 * (f.timestamp - t).toNat then (.late, min (p.missedCycles + 1) 4294967295)
    else (p.lastError, p.missedCycles)

/-- The frame is examined as SEQUENCE or LATE (R4). -/
def Sys2Proof.Statements.Missed (p : RingPort) (f : Frame) : Prop :=
  ∃ v, p.previous = some v
    ∧ ((f.cycle - v.1).toNat ≠ 1 ∨ 3 * p.period < 2 * (f.timestamp - v.2).toNat)

/-- The five lists, the take-off and the tunnel stand as they were, and the commands that wait. -/
def Sys2Proof.Statements.SameBelt (s t : State) : Prop :=
  t.track.free = s.track.free ∧ t.track.runout = s.track.runout ∧ t.track.tunnel = s.track.tunnel
    ∧ t.track.exit = s.track.exit ∧ t.track.done = s.track.done ∧ t.takeOff = s.takeOff ∧ t.tunnel = s.tunnel
    ∧ t.pending = s.pending

/-- A bad frame: it is counted and named, every quantity ages by one, nothing moves, it goes on with DAMAGED set in
SYNCING, LISTEN and ACTIVE and as it came elsewhere, and the third in a row in LISTEN or ACTIVE brings FAULT (R3, R5,
R7 to R9). How the timer runs on (log entry 28), the pins as last seen (log entry 20), and that a frame which comes as
the timer reaches the deadline is taken first (log entry 11), are the model's choices. -/
def Obligations.BadFrameIsCountedAndPassedOn : Prop :=
  ∀ (rx : Reception) (s : State) (code : ErrorCode), TakenInTime rx s → frameFinding s.port rx.frame = some code →
    ∃ t, exec (.cycleFrame rx) s = .next t
      ∧ t.port.lastError = code ∧ t.port.badFrames = min (s.port.badFrames + 1) 4294967295
      ∧ t.port.missedCycles = s.port.missedCycles ∧ t.port.previous = s.port.previous
      ∧ t.downstream = some (if s.port.state = .offline ∨ s.port.state = .fault then rx.frame else damaged rx.frame)
      ∧ t.reply = none ∧ t.timer = s.timer + rx.elapsed ∧ t.lines.pins = rx.pins
      ∧ (∀ q : Fin 16, t.converter.quantities[q] = aged s.converter.entries[q] s.converter.quantities[q])
      ∧ PendingIfEnabled .frameError s t
      ∧ SameSettings s t ∧ SameBelt s t
      ∧ (s.port.state = .offline → t.port.state = .offline)
      ∧ (s.port.state = .syncing → t.port.state = .syncing ∧ t.port.syncCount = 0)
      ∧ (s.port.state = .fault → t.port.state = .fault ∧ t.port.recoveryCount = 0)
      ∧ (Served s → s.port.runCount < 2 →
          t.port.state = s.port.state ∧ t.port.runCount = s.port.runCount + 1 ∧ t.port.deadline = s.port.deadline)
      ∧ (Served s → 2 ≤ s.port.runCount → t.port.state = .fault ∧ PendingIfEnabled .ringFault s t)

/-- A good frame in OFFLINE, SYNCING or FAULT: it passes unchanged, every quantity ages by one, nothing moves, and the
port counts towards LISTEN (R1, R4, R5, R7, R9). A SEQUENCE or LATE frame raises CYCLE_MISSED (R4). How the timer runs
on (log entry 28), the pins as last seen (log entry 20), and the counts that stand at 8 and 64 (log entry 18) are the
model's choices. -/
def Obligations.GoodFrameOutsideListenAndActive : Prop :=
  ∀ (rx : Reception) (s : State), ¬Served s → frameFinding s.port rx.frame = none →
    ∃ t, exec (.cycleFrame rx) s = .next t
      ∧ (t.port.lastError, t.port.missedCycles) = examined s.port rx.frame
      ∧ (Missed s.port rx.frame → PendingIfEnabled .cycleMissed s t)
      ∧ t.port.previous = some (rx.frame.cycle, rx.frame.timestamp) ∧ t.port.badFrames = s.port.badFrames
      ∧ t.downstream = some rx.frame ∧ t.reply = none ∧ t.timer = s.timer + rx.elapsed ∧ t.lines.pins = rx.pins
      ∧ (∀ q : Fin 16, t.converter.quantities[q] = aged s.converter.entries[q] s.converter.quantities[q])
      ∧ SameSettings s t ∧ SameBelt s t
      ∧ (s.port.state = .offline → t.port.state = .syncing ∧ t.port.syncCount = 1)
      ∧ (∀ n, s.port.state = .syncing →
          n = (if cycleGap s.port rx.frame = some 1 then min (s.port.syncCount + 1) 8 else 1) →
          t.port.syncCount = n ∧ t.port.state = (if n = 8 then .listen else .syncing)
          ∧ (n = 8 → t.port.runCount = 0 ∧ t.port.deadline = some (s.timer + rx.elapsed + 4 * s.port.period)))
      ∧ (∀ n, s.port.state = .fault → n = min (s.port.recoveryCount + 1) 64 →
          t.port.recoveryCount = n ∧ t.port.state = (if n = 64 then .listen else .fault)
          ∧ (n = 64 → t.port.runCount = 0 ∧ t.port.deadline = some (s.timer + rx.elapsed + 4 * s.port.period)))

/-- The frame carries no request for this part (R16). -/
def Sys2Proof.Statements.NoRequest (rx : Reception) (s : State) : Prop :=
  rx.frame.target.toNat ≠ s.port.address.toNat ∨ rx.frame.code = 0

/-- An arrival in LISTEN without a request: the part works on samples and lines alone, nothing moves, a halted line
that still runs stops at once, and of the fields STATUS alone is written (R6, R8, R15, R127). A SEQUENCE or LATE frame
raises CYCLE_MISSED (R4). How the timer runs on (log entry 28), and that a frame which comes as the timer reaches the
deadline is taken first (log entry 11), are the model's choices. -/
def Obligations.ListenArrivalWritesStatusAlone : Prop :=
  ∀ (rx : Reception) (s : State), TakenInTime rx s → s.port.state = .listen → frameFinding s.port rx.frame = none →
    NoRequest rx s →
    ∃ t, exec (.cycleFrame rx) s = .next t
      ∧ t.port.state = .listen ∧ t.port.runCount = 0
      ∧ t.port.deadline = some (s.timer + rx.elapsed + 4 * s.port.period)
      ∧ t.port.previous = some (rx.frame.cycle, rx.frame.timestamp)
      ∧ (t.port.lastError, t.port.missedCycles) = examined s.port rx.frame
      ∧ (Missed s.port rx.frame → PendingIfEnabled .cycleMissed s t)
      ∧ t.reply = none ∧ SameSettings s t ∧ SameBelt s t
      ∧ (t.gov.line = .halted → t.gov.command = 0 ∧ t.seq.openRecord = none
          ∨ (t.gov = s.gov ∧ s.gov.command = 0))
      ∧ (t.gov.line ≠ .halted → t.gov = s.gov)
      ∧ ∀ slots, slots = (match s.port.map[(8 : Fin 9)] with
            | some o => if insideOneWindow s.port.writeWindows o 26 = true ∧ o + 26 ≤ rx.frame.slots.length then
                rx.frame.slots.take o ++ statusBytes t ++ rx.frame.slots.drop (o + 26)
              else rx.frame.slots
            | none => rx.frame.slots) →
          t.downstream = some { rx.frame with slots := slots, crc := frameCrc { rx.frame with slots := slots } }

/-- A frame that carries no request for this part changes no table and no setting (R16). -/
def Obligations.FrameWithoutRequestKeepsSettings : Prop :=
  ∀ (rx : Reception) (s : State), NoRequest rx s →
    ∃ t, exec (.cycleFrame rx) s = .next t ∧ SameSettings s t ∧ t.reply = none ∧ t.pending = s.pending

/-- The part writes slot-area bytes only inside its write windows, whatever the frame and whatever it carries (R15). -/
def Obligations.SlotBytesOutsideWriteWindowsStand : Prop :=
  ∀ (rx : Reception) (s t : State), exec (.cycleFrame rx) s = .next t →
    ∃ f, t.downstream = some f ∧ f.slots.length = rx.frame.slots.length
      ∧ (s.port.state ≠ .listen → s.port.state ≠ .active → f.slots = rx.frame.slots)
      ∧ ∀ n : Nat,
          (∀ (i : Fin 4) (w : Window), s.port.writeWindows[i] = some w → ¬(w.base ≤ n ∧ n ≤ w.limit)) →
          f.slots[n]? = rx.frame.slots[n]?

/-- The request that a frame carries to this part is carried out after the arrival's work and the writing of the
fields, as the command of its own name is on the state that work leaves, and its reply stands in the same frame (R16,
R197, R198). That a request stands as a command of its own, with the effect it has in its frame, is the model's choice
(log entry 4), and that a frame which comes as the timer reaches the deadline is taken first (log entry 11). -/
def Obligations.FrameCarriesOutItsRequest : Prop :=
  ∀ (rx : Reception) (s : State) (i : Instr) (code : Nat) (payload : List Byte),
    TakenInTime rx s → Served s → frameFinding s.port rx.frame = none →
    wellFormed i = true → Decode.requestBytes i = some (code, payload) →
    rx.frame.target.toNat = s.port.address.toNat → rx.frame.code = byte code →
    rx.frame.payload.toList.take rx.frame.payloadLength.toNat = payload →
    ∃ (w t : State) (r : Reply), w = frameWork rx.frame (takeIn rx s) ∧ exec i w = .next (t.withReply (some r))
      ∧ ∀ f, f = { rx.frame with
            slots := writtenSlots w rx.frame.slots, replyStatus := byte (statusCode r.status), tagEcho := rx.frame.tag,
            replyLength := byte r.payload.length,
            replyPayload := Vector.ofFn fun k : Fin 192 => r.payload.getD k.val 0 } →
          exec (.cycleFrame rx) s =
            .next ((t.withReply (some r)).withDownstream (some { f with crc := frameCrc f }))

/-- The payload of every well-formed request, read back by its code, is that request: no operand loses a bit (R197). -/
def Obligations.RequestPayloadsReadBack : Prop :=
  ∀ (i : Instr) (code : Nat) (payload : List Byte), wellFormed i = true →
    Decode.requestBytes i = some (code, payload) →
    Decode.parseRequest code payload = .ok i ∧ 1 ≤ code ∧ code ≤ 48 ∧ payload.length ≤ 192

/-- One stroke entry (R202). -/
def Sys2Proof.Statements.strokeEntry (k : Stroke) : List Byte :=
  four k.position.toNat ++ two k.depth
    ++ [byte ((if k.actions.knife then 1 else 0) + (if k.actions.tuck then 2 else 0) + (if k.actions.reverse then 4 else 0)
          + (if k.actions.mark then 8 else 0)),
        byte k.fold, byte k.serial]

/-- A frame's bytes on the ring: header, slot area, service area and trailer, the service area 10 + slot area length bytes
in and the trailer 393 bytes further on (R201). A frame whose slot area has another length than its header says is bad (log
entry 15). -/
def Sys2Proof.Statements.FrameLayout : Prop :=
  ∀ f : Frame, f.slots.length = f.slotLength.toNat →
    (wireBytes f).take 10 = [f.kind, f.flags] ++ two f.cycle.toNat ++ four f.timestamp.toNat ++ two f.slotLength.toNat
    ∧ ((wireBytes f).drop 10).take f.slotLength.toNat = f.slots
    ∧ (∀ service, service = (wireBytes f).drop (10 + f.slotLength.toNat) →
        service.take 5 = [f.target, f.code] ++ two f.tag.toNat ++ [f.payloadLength]
        ∧ (service.drop 5).take 192 = f.payload.toList
        ∧ (service.drop 197).take 4 = [f.replyStatus] ++ two f.tagEcho.toNat ++ [f.replyLength]
        ∧ (service.drop 201).take 192 = f.replyPayload.toList
        ∧ service.drop 393 = four f.crc.toNat)
    ∧ (∀ p : RingPort, frameFinding p f = none → f.crc = crc32 ((wireBytes f).take (403 + f.slotLength.toNat)))
    ∧ ∀ (p : RingPort) (g : Frame), g.slots.length ≠ g.slotLength.toNat → frameFinding p g ≠ none

/-- The bytes of a frame (R201), of the nine command fields (R202), and of the status record among them (R203). -/
def Obligations.CommandFieldLayout : Prop :=
  FrameLayout ∧ ∀ s : State,
    (∀ i : Fin 9, (fieldBytes s i).length = fieldSize i)
    ∧ (s.folds.strokes.length ≤ 4 →
        fieldBytes s 0 = (s.folds.strokes.flatMap strokeEntry) ++ List.replicate (36 - 9 * s.folds.strokes.length) 0)
    ∧ fieldBytes s 1 = four s.gov.vIn ∧ fieldBytes s 2 = four s.gov.command ∧ fieldBytes s 3 = four s.gov.spindleA
    ∧ fieldBytes s 4 = four s.gov.spindleB
    ∧ (s.roll.paste = none → fieldBytes s 5 = [0, 0]) ∧ (s.roll.paste = some .a → fieldBytes s 5 = [1, 1])
    ∧ (s.roll.paste = some .b → fieldBytes s 5 = [2, 1])
    ∧ fieldBytes s 6 = (List.finRange 6).flatMap (fun z => two s.tunnel.zones[z].opening)
    ∧ (s.takeOff.cutEntry = none → fieldBytes s 7 = [0, 0, 0, 0, 0, 0])
    ∧ (∀ c, s.takeOff.cutEntry = some c → fieldBytes s 7 = four c.position.toNat ++ [byte c.record.val,
        match c.disposition with
        | .good => 1
        | .reject => 2
        | .waste => 3])
    ∧ fieldBytes s 8 =
        [byte (lineStateCode s.gov.line), byte (kindCode (openKind s)), byte (gapReasonCode (openGapReason s)),
         byte (spliceStateCode s.roll.splice)] ++ four s.gov.command ++ four s.gov.target
        ++ [byte (sourceCode s.gov.source),
            (match lowestPending s.notices with
             | some i => byte i.val
             | none => 255),
            byte (pendingCount s.notices),
            byte ((if groupFlag s.notices 0 then 1 else 0) + (if groupFlag s.notices 1 then 2 else 0)
              + (if groupFlag s.notices 2 then 4 else 0) + (if groupFlag s.notices 3 then 8 else 0)),
            byte s.track.free.length, byte s.track.done.length]
        ++ (match s.seq.lastPanel with
            | none => [0, 0, 0, 0, 0, 0, 0]
            | some p => 1 :: (two p.1 ++ four p.2))
        ++ [byte (errorCode s.port.lastError)]

/-! ### Events -/

/-- SYNC_COMPLETE and FAULT_RECOVERY: the frame that completes the count passes unchanged and the port is in LISTEN
from the next one (R7, R9, R6). That the event answers as its frame does is the model's reading (log entry 3), as are
the counts that stand at 8 and 64 (log entry 18) and how the timer runs on (log entry 28). -/
def Obligations.CountsBringThePortToListen : Prop :=
  ∀ (rx : Reception) (s : State), frameFinding s.port rx.frame = none →
    (s.port.state = .syncing → cycleGap s.port rx.frame = some 1 → s.port.syncCount = 7 →
      ∃ t, exec (.syncComplete rx) s = .next t ∧ exec (.cycleFrame rx) s = .next t
        ∧ t.port.state = .listen ∧ t.port.syncCount = 8 ∧ t.port.runCount = 0
        ∧ t.port.deadline = some (s.timer + rx.elapsed + 4 * s.port.period)
        ∧ t.downstream = some rx.frame ∧ t.reply = none)
    ∧ (s.port.state = .fault → s.port.recoveryCount = 63 →
      ∃ t, exec (.faultRecovery rx) s = .next t ∧ exec (.cycleFrame rx) s = .next t
        ∧ t.port.state = .listen ∧ t.port.recoveryCount = 64 ∧ t.port.runCount = 0
        ∧ t.port.deadline = some (s.timer + rx.elapsed + 4 * s.port.period)
        ∧ t.downstream = some rx.frame ∧ t.reply = none)

/-- BAD_FRAME_RUN_FAULT and SILENCE_TIMEOUT bring the port to FAULT with RING_FAULT, and the line to HALTED when it
was in RUN or STOPPING (R6, R8, R9, R126, R187). That the event answers as its frame does is the model's reading (log
entry 3). How the timer runs on (log entry 28), and the source HALT from the entry on (log entry 35), are its choices,
and that a frame which comes as the timer reaches the deadline is taken first (log entry 11). -/
def Obligations.FaultsHaltTheLine : Prop :=
  ∀ s : State, Served s → FixedNoticesHalt s →
    (∀ (rx : Reception) (code : ErrorCode), TakenInTime rx s → frameFinding s.port rx.frame = some code →
      s.port.runCount = 2 →
      ∃ t, exec (.badFrameRunFault rx) s = .next t ∧ exec (.cycleFrame rx) s = .next t
        ∧ t.port.state = .fault ∧ t.port.recoveryCount = 0 ∧ t.port.deadline = none ∧ t.port.lastError = code
        ∧ t.downstream = some (damaged rx.frame) ∧ isPending t.notices 0 = true
        ∧ ((s.gov.line = .run ∨ s.gov.line = .stopping) → t.gov.line = .halted))
    ∧ (∀ d, s.port.deadline = some d →
      ∃ t, exec .silenceTimeout s = .next t
        ∧ t.port = { s.port with state := .fault, recoveryCount := 0, deadline := none, lastError := .silence }
        ∧ t.timer = max s.timer d ∧ isPending t.notices 0 = true ∧ t.reply = none ∧ t.converter = s.converter
        ∧ SameBelt s t
        ∧ ((s.gov.line = .run ∨ s.gov.line = .stopping) →
            t.gov = { s.gov with line := .halted, rampStarted := false, target := 0, source := .halt })
        ∧ (s.gov.line ≠ .run → s.gov.line ≠ .stopping → t.gov = s.gov ∧ t.seq = s.seq ∧ t.folds = s.folds))

/-- QUANTITY_STALE: a quantity whose age passes its stale limit enters LOST and raises its notice, at a frame without
samples and at an arrival without a valid sample of it (R25, R27, R5); w is what the frame's work leaves before a request
that it carries. That the event answers as its frame does is the model's reading (log entry 3), and that a frame which comes
as the timer reaches the deadline is taken first (log entry 11). -/
def Obligations.StaleQuantityEntersLost : Prop :=
  ∀ (q : Fin 16) (rx : Reception) (s : State), TakenInTime rx s →
    s.converter.quantities[q].lost = false →
    s.converter.entries[q].staleLimit < min (s.converter.quantities[q].age + 1) 65535 →
    (frameFinding s.port rx.frame ≠ none ∨ ¬Served s ∨ s.converter.entries[q].enabled = false
      ∨ decodedSample (doorTest (latchLines (countArrival (examineGood rx.frame (takeIn rx s))))) rx.frame.slots
          s.converter.entries[q] = none) →
    ∃ t, exec (.quantityStale q rx) s = .next t ∧ exec (.cycleFrame rx) s = .next t
      ∧ ∀ w, w = frameWork rx.frame (takeIn rx s) →
        ((frameFinding s.port rx.frame ≠ none ∨ ¬Served s ∨ NoRequest rx s) →
          t.converter = w.converter ∧ t.notices = w.notices)
        ∧ w.converter.quantities[q] =
            { s.converter.quantities[q] with
              age := min (s.converter.quantities[q].age + 1) 65535, lost := true, lastRaw := none }
        ∧ ∀ n, n = (if q.val < 2 then some Notice.positionLost else if q.val < 4 then some .diameterLost
              else if q.val < 6 then some .speedSampleLost else if q.val = 6 then some .dancerLost
              else if q.val = 7 then some .pressureLost else if q.val < 14 then some .tempLost else none) →
            ∀ k, n = some k → PendingIfEnabled k s w

/-- The entry a completion makes (R57 to R61): a FLAT of ratio 4096, or a FOLD whose depth is graded and clamped, whose
length is pitch plus multiplier times depth, and whose ratio is rounded half up. -/
def Sys2Proof.Statements.entryOfSpec (c : PanelContext) (kind : FoldKind) : EntrySpec → StrokeEntry
  | .flat len =>
    { position := c.start + BitVec.ofNat 32 c.offset, length := len, ratio := 4096, fold := none, serial := c.serial,
      record := c.record, emitted := false }
  | .fold g k number =>
    let d := calcDepth g kind k
    { position := c.start + BitVec.ofNat 32 c.offset, length := g.pitch + kind.multiplier * d,
      ratio := (4096 * (g.pitch + kind.multiplier * d) + g.pitch / 2) / g.pitch,
      fold := some { depth := d, multiplier := kind.multiplier, actions := kind.actions, number := number }, serial := c.serial, record := c.record,
      emitted := false }

/-- The `k` requests issued from entry `n` on of a panel of pattern `x` (R64). -/
def Sys2Proof.Statements.issuedFrom (s : State) (c : PanelContext) (x : Pattern) (n k : Nat) : List FoldRequest :=
  (List.range k).map fun j =>
    { serial := c.serial, entry := n + j,
      kind := (match entrySpec x (n + j) with
        | some (.fold g _ _) => some (kindAt s.store.kinds g.kind)
        | _ => none),
      abandoned := false }

/-- FOLD_COMPLETION: the oldest request's entry joins the tail of the stroke queue, or is discarded when its panel's
context is gone (R65, R66), and as many requests are issued behind it as the cursor and the two limits allow (R64). That it
is the oldest that completes, and that nothing happens with none in flight, is the model's choice (log entry 29); that an
abandoned request stands until its completion is its reading (log entry 13). That the request for a FLAT entry carries no
fold kind is its choice as well (log entry 39). -/
def Obligations.FoldCompletionAppendsOrDiscards : Prop :=
  ∀ s : State,
    (s.folds.requests = [] → exec .foldCompletion s = .next (s.withReply none))
    ∧ (∀ r rest, s.folds.requests = r :: rest →
        (s.folds.context = none ∨ r.abandoned = true ∨ (∀ c, s.folds.context = some c → r.serial ≠ c.serial)) →
        exec .foldCompletion s = .next ((s.withReply none).withFolds { s.folds with requests := rest }))
    ∧ (∀ r rest c x spec, s.folds.requests = r :: rest → s.folds.context = some c → r.abandoned = false →
        r.serial = c.serial → s.store.places[c.pattern] = some x → entrySpec x r.entry = some spec →
        ∀ e, e = entryOfSpec c (r.kind.getD FoldKind.spacer) spec →
        ∃ (t : State) (more : List FoldRequest), exec .foldCompletion s = .next t
          ∧ (s.seq.cursor = none → more = [] ∧ t.seq.cursor = none)
          ∧ (∀ n live k, s.seq.cursor = some n → live = (rest.filter fun m => !m.abandoned).length →
              k = min (entryCount x - n) (min (8 - live) (32 - (live + (s.folds.queue.length + 1)))) →
              more = issuedFrom s c x n k ∧ t.seq.cursor = some (n + k))
          ∧ t.folds.queue = s.folds.queue ++ [e] ∧ t.folds.requests = rest ++ more
          ∧ t.folds.context = some { c with offset := c.offset + e.length } ∧ t.folds.ratio = s.folds.ratio
          ∧ t.folds.strokes = s.folds.strokes
          ∧ t = ((s.withReply none).withFolds t.folds).withSeq t.seq ∧ t.seq = { s.seq with cursor := t.seq.cursor })

/-- The state an ACTIVE arrival's frame leaves after the samples are converted (R25). -/
def Sys2Proof.Statements.sampled (rx : Reception) (s : State) : State :=
  sampleWork rx.frame (countArrival (examineGood rx.frame (takeIn rx s)))

/-- An ACTIVE arrival without a request. -/
def Sys2Proof.Statements.ActiveArrival (rx : Reception) (s : State) : Prop :=
  TakenInTime rx s ∧ s.port.state = .active ∧ frameFinding s.port rx.frame = none ∧ NoRequest rx s

/-- ZONE_SETTLED: the arrival within the band that completes the settle count brings the zone IN_BAND (R145, R146). A
settle count at or below the progress reached settles at once (log entry 22). -/
def Sys2Proof.Statements.ZoneSettles : Prop :=
  ∀ (z : Fin 6) (rx : Reception) (s : State), ActiveArrival rx s → ∀ x, x = s.tunnel.zones[z] →
    ((x.state = .warming ∨ x.state = .low ∨ x.state = .high) ∧ x.settings.settleCount ≤ x.progress + 1
      ∨ (x.state = .lost ∧ x.settings.settleCount ≤ 1)) →
    ∀ q, q = quantity (sampled rx s) (zoneQuantity z) → q.lost = false →
    x.settings.bandLow ≤ q.value.toNat → q.value.toNat ≤ x.settings.bandHigh →
    ∃ t, exec (.zoneSettled z rx) s = .next t ∧ exec (.cycleFrame rx) s = .next t
      ∧ t.tunnel.zones[z].state = .inBand ∧ t.tunnel.zones[z].progress = 0

/-- The state at step 4 of the roll change controller's work (R166). -/
def Sys2Proof.Statements.beforeSplice (rx : Reception) (s : State) : State :=
  runoutTest (measureRolls (freeExpired .b (freeExpired .a (tunnelRegulation (entryWork (foldWork (sampled rx s)))))))

/-- A phase of a splice has lasted longer than a timeout in ms at an arrival: its timestamp is further from the phase
timestamp (R169, R170). -/
def Sys2Proof.Statements.Outlasted (r : RollChange) (ts : Timestamp) (timeout : Nat) : Prop :=
  ∃ p, r.phase = some p ∧ timeout * 1000 < (ts - p).toNat

/-- Within its timeout a phase that neither completes nor is confirmed goes on, measured from its own phase timestamp
against the timeout that stands at the arrival (R169, R170, R175). -/
def Sys2Proof.Statements.PhasesGoOn : Prop :=
  ∀ (ts : Timestamp) (s : State),
    (s.roll.splice = .matching → ¬Outlasted s.roll ts s.roll.settings.matchTimeout →
      (s.roll.matchCount < 9 ∨ speedMatches s = false) →
      spliceWork ts s = s.withRoll { s.roll with
        matchCount := if speedMatches s = true then s.roll.matchCount + 1 else 0 })
    ∧ (s.roll.splice = .paste → ¬Outlasted s.roll ts s.roll.settings.pasteTimeout →
      inputReads s .pasterConfirm = false → spliceWork ts s = s)

/-- MATCH_COMPLETE, MATCH_TIMEOUT and PASTE_TIMEOUT at an ACTIVE arrival (R169, R170). That the time is the difference of
two timestamps and no sum of capped intervals (R4) is the model's choice (log entry 32). -/
def Sys2Proof.Statements.MatchingAndPastingEnd : Prop :=
  PhasesGoOn ∧ ∀ (rx : Reception) (s : State), ActiveArrival rx s → ∀ x, x = beforeSplice rx s →
    (s.roll.splice = .matching → x.roll.splice = .matching → 9 ≤ x.roll.matchCount → speedMatches x = true →
      ∃ t, exec (.matchComplete rx) s = .next t ∧ exec (.cycleFrame rx) s = .next t
        ∧ t.roll.splice = .paste ∧ t.roll.matchCount = 10 ∧ t.roll.phase = some rx.frame.timestamp
        ∧ t.roll.paste = spindleIn x.roll .loaded)
    ∧ (s.roll.splice = .matching → x.roll.splice = .matching → (x.roll.matchCount < 9 ∨ speedMatches x = false) →
        Outlasted x.roll rx.frame.timestamp x.roll.settings.matchTimeout →
        x.roll.attempts < 3 →
      ∃ t, exec (.matchTimeout rx) s = .next t ∧ exec (.cycleFrame rx) s = .next t
        ∧ t.roll.attempts = x.roll.attempts + 1 ∧ PendingIfEnabled .matchFail s t
        ∧ (x.roll.attempts = 2 → t.roll.splice = .failed ∧ PendingIfEnabled .spliceFailed s t)
        ∧ (x.roll.attempts < 2 → t.roll.splice ≠ .failed ∧ t.roll.splice ≠ .paste))
    ∧ (s.roll.splice = .paste → inputReads x .pasterConfirm = false →
        Outlasted s.roll rx.frame.timestamp s.roll.settings.pasteTimeout →
      ∃ t, exec (.pasteTimeout rx) s = .next t ∧ exec (.cycleFrame rx) s = .next t
        ∧ t.roll.splice = .failed ∧ t.roll.paste = none ∧ PendingIfEnabled .pasteFail s t)

/-- The state in which the governor forms the infeed speed (R136). -/
def Sys2Proof.Statements.beforeInfeed (rx : Reception) (s : State) : State :=
  rampStep (compose (drainTests (tunnelAccounting (frameInterval s.port rx.frame)
    (webWork rx.frame.timestamp (sampled rx s)))))

/-- TRIM_AT_LIMIT_COUNT: the fiftieth arrival with the trim at its limit raises DANCER_LIMIT (R136). -/
def Sys2Proof.Statements.TrimReachesItsCount : Prop :=
  ∀ (rx : Reception) (s : State), ActiveArrival rx s → ∀ y, y = beforeInfeed rx s →
    s.gov.trimCount = 49 → 0 < y.gov.settings.trimLimit →
    (dancerTrim y.gov (quantity y 6)).natAbs = y.gov.settings.trimLimit →
    ∃ t, exec (.trimAtLimitCount rx) s = .next t ∧ exec (.cycleFrame rx) s = .next t
      ∧ t.gov.trimCount = 50 ∧ PendingIfEnabled .dancerLimit s t

/-- ZONE_SETTLED and TRIM_AT_LIMIT_COUNT at an ACTIVE arrival (R146, R136). -/
def Sys2Proof.Statements.CountsOfAnActiveArrivalComplete : Prop := ZoneSettles ∧ TrimReachesItsCount

/-! ### The shared work of an arrival -/

/-- `q` is `n` divided by `d`, rounded to nearest with ties away from zero (section 0.3.3). -/
def Sys2Proof.Statements.Nearest (n : Int) (d : Nat) (q : Int) : Prop :=
  2 * (n - q * d).natAbs ≤ d ∧ (2 * (n - q * d).natAbs = d → n.natAbs ≤ (q * d).natAbs)

/-- A decoded count as the signed flag reads it (R23). -/
def Sys2Proof.Statements.countRead (e : ConversionEntry) (c : Nat) : Int :=
  if e.signed = true ∧ 2 ^ (e.width - 1) ≤ c then (c : Int) - 2 ^ e.width else c

/-- The top of the range of an absolute or code quantity (section 2.1). -/
def Sys2Proof.Statements.topOf (i : Fin 16) : Nat :=
  if i.val < 4 then 150000 else if i.val < 6 then 1000000 else if i.val < 8 then 1000 else if i.val < 14 then 2500 else 2

/-- A valid sample of an absolute or code quantity: scaled, rounded, offset, clamped to the range, and held back by the
maximum change when it is no first sample (R24); a state quantity that enters 2 raises its fault (R28). -/
def Sys2Proof.Statements.AbsoluteSamples : Prop :=
  ∀ (i : Fin 16) (e : ConversionEntry) (q : Quantity) (c : Nat), 2 ≤ i.val → 1 ≤ e.denominator →
    ∃ (n target : Int) (v : Nat) (held : Bool),
      Nearest (countRead e c * e.numerator) e.denominator n
      ∧ target = max 0 (min (topOf i : Int) (n + e.offset))
      ∧ held = decide (q.lastRaw ≠ none ∧ e.maxChange ≠ 0 ∧ e.maxChange < (target - q.value.toNat).natAbs)
      ∧ (v : Int) = (if held = false then target
          else if (q.value.toNat : Int) < target then q.value.toNat + e.maxChange else q.value.toNat - e.maxChange)
      ∧ takeSample i e q c =
          ({ q with value := BitVec.ofNat 32 v, lost := false, fresh := true, age := 0, lastRaw := some c },
           (if held then [.sampleFiltered] else [])
            ++ (if 14 ≤ i.val ∧ v = 2 ∧ (q.value ≠ 2 ∨ q.lost = true) then
                  [if i = 14 then .knifeFault else .cutterFault]
                else []))

/-- The start sample of INFEED_POS and BELT_POS, after power-on, a write of the entry or an entry into LOST (R26). -/
def Sys2Proof.Statements.StartSamples : Prop :=
  ∀ (i : Fin 16) (e : ConversionEntry) (q : Quantity) (c : Nat), i.val < 2 → 1 ≤ e.denominator → q.lastRaw = none →
    ∃ n : Int, Nearest (countRead e c * e.numerator) e.denominator n
      ∧ takeSample i e q c =
          ({ value := BitVec.ofInt 32 (n + e.offset), lost := false, fresh := true, age := 0, remainder := 0,
             lastRaw := some c }, [])

/-- Gray decoding gives each binary digit from the one above it (R23), undoes the reflected code, and an incremental
sample without an entry into LOST keeps every fraction: value steps times the denominator, plus the remainder, add up to
the deltas times the numerator (R26). Beside it the start sample (R26) and the samples of the other quantities (R24, R28). -/
def Obligations.SamplesDecodeAndAddUp : Prop :=
  AbsoluteSamples ∧ StartSamples
  ∧ (∀ w n : Nat, n < 2 ^ w → grayDecode w (n ^^^ (n / 2)) = n)
  ∧ (∀ w gray k : Nat, k < w → (grayDecode w gray).testBit k =
      if k + 1 = w then gray.testBit k else xor ((grayDecode w gray).testBit (k + 1)) (gray.testBit k))
  ∧ ∀ (i : Fin 16) (e : ConversionEntry) (q : Quantity) (c last : Nat), i.val < 2 → q.lastRaw = some last →
      1 ≤ e.width → 1 ≤ e.denominator →
      ∃ (d taken step : Int) (r : Nat),
        (2 ^ e.width : Int) ∣ d - ((c : Int) - last) ∧ -(2 ^ (e.width - 1) : Int) ≤ d ∧ d < 2 ^ (e.width - 1)
        ∧ taken = (if e.maxChange ≠ 0 ∧ (e.maxChange : Int) < d then (e.maxChange : Int)
            else if e.maxChange ≠ 0 ∧ d < -(e.maxChange : Int) then -(e.maxChange : Int) else d)
        ∧ step * e.denominator + r = taken * e.numerator + q.remainder ∧ r < e.denominator
        ∧ takeSample i e q c =
            ({ value := q.value + BitVec.ofInt 32 step, lost := false, fresh := true, age := 0, remainder := r,
               lastRaw := some c }, if taken = d then [] else [.sampleFiltered])

/-- The live value of line `n`: what it drives, or its pin under its polarity (R31). -/
def Sys2Proof.Statements.liveValue (s : State) (n : Fin 32) : Bool :=
  if isOutput s.lines.lines[n].function = true ∧ s.lines.groups[groupOf n].locked = false then
    outputValue s s.lines.lines[n].function s.lines.lines[n].manual
  else if s.lines.lines[n].inverting then !s.lines.pins.getLsbD n.val else s.lines.pins.getLsbD n.val

/-- Latching at an arrival (R31, R32), and the door test (R35). -/
def Obligations.LinesLatchAndTheDoorIsTested : Prop :=
  (∀ (s : State) (g : Fin 4) (n : Fin 32), groupOf n = g →
    ∀ held, held = (match s.lines.groups[g].inhibit with
      | some k => liveValue s k
      | none => false) →
    (latchLines s).lines.groups[g] = { s.lines.groups[g] with held := held }
      ∧ ((latchLines s).lines.latch.getLsbD n.val = if held then s.lines.latch.getLsbD n.val else liveValue s n)
      ∧ (latchLines s).lines.lines = s.lines.lines ∧ (latchLines s).lines.pins = s.lines.pins)
  ∧ ∀ (s : State) (n : Fin 32), lineWith s .tunnelDoor = some n →
    ∀ closed running, closed = linePresented s n → running = decide (s.gov.line = .run ∨ s.gov.line = .stopping) →
      (doorTest s).lines = { s.lines with door := some { closed := closed, running := running } }
      ∧ (running = true → closed = false → (∀ d, s.lines.door = some d → d.closed = true ∨ d.running = false) →
          PendingIfEnabled .doorOpen s (doorTest s))
      ∧ ((running = false ∨ closed = true ∨ ∃ d, s.lines.door = some d ∧ d.closed = false ∧ d.running = true) →
          doorTest s = s.withLines (doorTest s).lines)

/-- The input length of an entry under a fold kind table (R59, R60). -/
def Sys2Proof.Statements.entryInput (kinds : Vector FoldKind 16) : EntrySpec → Nat
  | .flat n => n
  | .fold g k _ => g.pitch + (kindAt kinds g.kind).multiplier * calcDepth g (kindAt kinds g.kind) k

/-- The output length of an entry (R60). -/
def Sys2Proof.Statements.entryOutput : EntrySpec → Nat
  | .flat n => n
  | .fold g _ _ => g.pitch

/-- A panel's entries add up to its pattern's totals (R46, R60, R62); a group's depths start and end at the limited start
and end depths, never pass the limit, and between the two are the start depth plus the rounded part of the difference (R58). -/
def Obligations.EntriesAddUpToTheTotals : Prop :=
  (∀ (kinds : Vector FoldKind 16) (x : Pattern), x.totals = computeTotals kinds x.leadIn x.leadOut x.groups →
    ∀ es, es = (List.range (entryCount x)).filterMap (entrySpec x) →
      es.length = entryCount x ∧ (∀ n, entryCount x ≤ n → entrySpec x n = none)
      ∧ (es.map (entryInput kinds)).sum = x.totals.input ∧ (es.map entryOutput).sum = x.totals.output
      ∧ (x.groups.map FoldGroup.count).sum = x.totals.folds)
  ∧ ∀ (g : FoldGroup) (kind : FoldKind),
      (∀ k, calcDepth g kind k ≤ kind.limit) ∧ calcDepth g kind 0 = min g.startDepth kind.limit
      ∧ (2 ≤ g.count → calcDepth g kind (g.count - 1) = min g.endDepth kind.limit)
      ∧ (∀ k, k < g.count → 2 ≤ g.count → ∃ q : Int,
          Nearest (((g.endDepth : Int) - g.startDepth) * k) (g.count - 1) q
          ∧ (calcDepth g kind k : Int) = min ((g.startDepth : Int) + q) kind.limit)

/-- The entry is acting, not yet emitted, and within the emission window (R56, R72). -/
def Sys2Proof.Statements.dueStroke (s : State) (e : StrokeEntry) : Bool :=
  (match e.fold with
   | some f => decide (f.actions ≠ ActionSet.empty)
   | none => false)
  && !e.emitted && decide ((e.position - infeed s).toNat ≤ (geometryOf s).window)

/-- The stroke that carries an entry (R73); its depth is 0 for a kind of multiplier 0 (R74). That R74 is taken before R58
and R73 there is the model's choice (log entry 44). -/
def Sys2Proof.Statements.strokeFor (e : StrokeEntry) : Stroke :=
  match e.fold with
  | some f => { position := e.position, depth := if f.multiplier = 0 then 0 else f.depth, actions := f.actions,
                fold := f.number % 256, serial := e.serial % 256 }
  | none => { position := e.position, depth := 0, actions := ActionSet.empty, fold := 0, serial := e.serial % 256 }

/-- Passing takes every entry that INFEED_POS has reached from the head, and the ratio in force is that of the last of them
(R70, R69); a late entry's notice that halts the line empties the queue (R67). Emission selects the first four due
entries in queue order and marks them emitted (R72, R73, R74). What a stroke of multiplier 0 carries is the model's choice
between rules (log entry 44). -/
def Obligations.EntriesPassAndAreEmitted : Prop :=
  (∀ s : State, ∀ t, t = passing s.folds.queue.length s →
    (∀ e rest, t.folds.queue = e :: rest → reached (infeed s) e.position = false)
    ∧ t.folds.queue <:+ s.folds.queue
    ∧ (∀ gone e, s.folds.queue = gone ++ [e] ++ t.folds.queue → t.gov.line = s.gov.line → t.folds.ratio = e.ratio)
    ∧ (t.gov.line ≠ s.gov.line → t.gov.line = .halted ∧ t.folds.queue = [] ∧ t.folds.ratio = 4096)
    ∧ (∀ e rest, s.folds.queue = e :: rest → reached (infeed s) e.position = false → t = s))
  ∧ ∀ s : State, ∀ due, due = s.folds.queue.filter (dueStroke s) →
    (emission s).folds.strokes = (due.take 4).map strokeFor
    ∧ (emission s).folds.queue.length = s.folds.queue.length
    ∧ (∀ k e, s.folds.queue[k]? = some e → (emission s).folds.queue[k]? =
        some (if dueStroke s e = true ∧ ((s.folds.queue.take k).filter (dueStroke s)).length < 4 then
          { e with emitted := true } else e))
    ∧ emission s = s.withFolds (emission s).folds

/-- A PANEL comes of a decision exactly when all seven conditions of R87 hold; what its opening writes (R90),
with the out_start of R107. -/
def Obligations.PanelOpensWhenAllConditionsHold : Prop :=
  (∀ s : State, (panelDecision s).2.1 = .panel ↔
    s.gov.line = .run ∧ ∃ (r : Run) (p : Pattern),
      ((∃ c, s.seq.current = some c ∧ 0 < c.remaining ∧ c.run = r)
        ∨ ((∀ c, s.seq.current = some c → c.remaining = 0) ∧ s.seq.queue.head? = some r ∧ 0 < r.count))
      ∧ s.store.places[r.pattern] = some p
      ∧ (∀ (z : Fin 6) (f : ZoneFit), s.tunnel.zones[z].fit = some f → f.role = .set → s.tunnel.zones[z].state = .inBand)
      ∧ 2 ≤ s.track.free.length
      ∧ s.roll.splice ≠ .armed ∧ s.roll.splice ≠ .matching ∧ s.roll.splice ≠ .paste ∧ s.roll.splice ≠ .clear
      ∧ p.totals.input + (geometryOf s).spliceMargin ≤ s.roll.budget
      ∧ (∀ a b, setSection s.tunnel = some (a, b) → s.gov.command ≤ (b - a) * 10 / p.minDwell)
      ∧ s.seq.hold = false)
  ∧ ∀ (s : State) (i : Fin 64) (rest : List (Fin 64)) (c : CurrentRun) (p : Pattern),
      s.track.free = i :: rest → s.seq.current = some c → 0 < c.remaining → s.store.places[c.run.pattern] = some p →
      ∀ t, t = (openPanel s).1 → ∃ r : TrackRecord,
        t.track = { s.track with free := rest, runout := s.track.runout ++ [i], records := s.track.records.set i r }
        ∧ r.kind = some .panel ∧ r.isOpen = true ∧ r.inStart = some (infeed s) ∧ r.inLen = some p.totals.input
        ∧ r.outLen = some p.totals.output ∧ r.pattern = some c.run.pattern ∧ r.lotTag = some c.run.lotTag
        ∧ r.lotClass = some p.lotClass ∧ r.serial = some s.seq.serial ∧ r.gapReason = none ∧ r.newLotTag = none
        ∧ (∃ o, r.outStart = some o ∧ IsOpeningOutStart s o) ∧ r.transits = Transits.none
        ∧ r.marks = Marks.empty ∧ r.offBand = 0 ∧ r.disposition = none ∧ r.cutEmitted = false
        ∧ t.seq.openRecord = some i ∧ t.seq.current = some { c with remaining := c.remaining - 1 }
        ∧ t.seq.serial = min (s.seq.serial + 1) 4294967295 ∧ t.seq.lastPanel = some (c.run.lotTag, s.seq.serial)
        ∧ t.folds.context = some { serial := s.seq.serial, record := i, pattern := c.run.pattern, start := infeed s, offset := 0 }
        ∧ t.folds.queue = s.folds.queue ∧ t.folds.ratio = s.folds.ratio
        ∧ ((.orderEmpty ∈ (openPanel s).2) ↔ (c.remaining = 1 ∧ s.seq.queue = []))

/-- The belt distance of a record's lead edge (R108). -/
def Sys2Proof.Statements.leadAt (s : State) (r : TrackRecord) : Position := belt s - r.outStart.getD 0

/-- The belt distance of a record's trail edge, at the knife for the open record (R108). -/
def Sys2Proof.Statements.trailAt (s : State) (r : TrackRecord) : Position :=
  if r.isOpen then 0 else belt s - (r.outStart.getD 0 + BitVec.ofNat 32 (r.outLen.getD 0))

/-- An edge has reached a belt distance (R108). -/
def Sys2Proof.Statements.EdgeAt (edge : Position) (d : Nat) : Prop := Reaches edge (BitVec.ofNat 32 d)

/-- The records behind the knife after the conversion of an arrival (R111): at a re-base, which ends a loss of BELT_POS, the
records of RUNOUT and TUNNEL whose out_start stands 2^31 or more away; at another arrival those of them that the belt has not
reached. Nothing else changes, and nothing at all with BELT_POS LOST. -/
def Sys2Proof.Statements.RecordsBehindTheKnife : Prop :=
  ∀ (wasLost : Bool) (s t : State), t = noteBehind wasLost s →
    (beltLost s = true → t = s)
    ∧ (beltLost s = false → t = s.withTrack { s.track with behind := t.track.behind }
        ∧ ∀ i : Fin 64, i ∈ t.track.behind ↔ 2 ^ 31 ≤ (leadAt s s.track.records[i]).toNat
            ∧ ((wasLost = true ∧ (i ∈ s.track.runout ∨ i ∈ s.track.tunnel)) ∨ (wasLost = false ∧ i ∈ s.track.behind)))

/-- The entry moves take exactly the records at the head of RUNOUT whose lead edges have reached D_entry, and that no re-base
has left behind the knife, to the tail of TUNNEL, and change no field of a record; their exposure residues start at 0 (R111,
R112, R152). -/
def Sys2Proof.Statements.EntryMoves : Prop :=
  ∀ s t : State, t = entryWork s →
    (beltLost s = true → t = s)
    ∧ (beltLost s = false → ∃ moved : List (Fin 64),
        s.track.runout = moved ++ t.track.runout
        ∧ t.track = { s.track with runout := t.track.runout, tunnel := s.track.tunnel ++ moved }
        ∧ (∀ i ∈ moved, i ∉ s.track.behind ∧ EdgeAt (leadAt s s.track.records[i]) (geometryOf s).entry)
        ∧ (∀ i rest, t.track.runout = i :: rest →
            i ∈ s.track.behind ∨ ¬EdgeAt (leadAt s s.track.records[i]) (geometryOf s).entry)
        ∧ t = (s.withTrack t.track).withTunnel { s.tunnel with residues := t.tunnel.residues }
        ∧ ∀ i : Fin 64, t.tunnel.residues[i] = if i ∈ moved then 0 else s.tunnel.residues[i])

/-- The exit moves take records from the head of TUNNEL to the tail of EXIT: closed ones whose trail edges have reached
D_exit and that no re-base has left behind the knife, with the transit stamps that their edges call for, until the head is
open, short of D_exit or behind the knife (R111, R113, R155). -/
def Sys2Proof.Statements.ExitMoves : Prop :=
  ∀ (ts : Timestamp) (s t : State), t = exitWork ts s →
    (∀ i, s.seq.openRecord = some i → s.track.records[i].isOpen = true) →
    (beltLost s = true → t = s)
    ∧ (beltLost s = false → ∃ moved : List (Fin 64),
        s.track.tunnel = moved ++ t.track.tunnel ∧ t.track.exit = s.track.exit ++ moved
        ∧ t.track.free = s.track.free ∧ t.track.runout = s.track.runout ∧ t.track.done = s.track.done
        ∧ t.track.behind = s.track.behind
        ∧ (∀ i ∈ moved, ∀ r, r = t.track.records[i] → i ∉ s.track.behind ∧
            r.isOpen = false ∧ EdgeAt (trailAt s r) (geometryOf s).exit ∧ r.disposition ≠ none
            ∧ ∀ a b, setSection s.tunnel = some (a, b) →
                (EdgeAt (leadAt s r) a → r.transits.leadEntry ≠ none) ∧ (EdgeAt (leadAt s r) b → r.transits.leadExit ≠ none)
                ∧ (EdgeAt (trailAt s r) a → r.transits.trailEntry ≠ none)
                ∧ (EdgeAt (trailAt s r) b → r.transits.trailExit ≠ none))
        ∧ ∀ i rest, t.track.tunnel = i :: rest →
            i ∈ s.track.behind ∨ t.track.records[i].isOpen = true ∨ ¬EdgeAt (trailAt s t.track.records[i]) (geometryOf s).exit)

/-- Which records the entry and the exit moves take (R112, R113). The exit move fixes the disposition (R113, R178), a cut
moves the head of EXIT to DONE and sets the gate (R180, R181, R114), and the cut entry carries the head of EXIT within the
cut window (R182). A target at a distance of exactly 2^31 reads as not reached (log entry 36). That
R111 holds records back where the test of R108 alone would move them is the model's choice (log entry 47). -/
def Obligations.ExitMovesAndCuts : Prop :=
  RecordsBehindTheKnife ∧ EntryMoves ∧ ExitMoves
  ∧ (∀ (i : Fin 64) (rest : List (Fin 64)) (s : State), ∀ t, t = leaveTunnel i rest s →
    t.track.tunnel = rest ∧ t.track.exit = s.track.exit ++ [i] ∧ t.track.runout = s.track.runout
    ∧ t.track.done = s.track.done ∧ t.track.free = s.track.free
    ∧ t.track.records[i].cutEmitted = false
    ∧ t.track.records[i].disposition = some
        (if t.track.records[i].kind = some .panel then
          (if t.track.records[i].marks = Marks.empty then .good else .reject) else .waste))
  ∧ (∀ (i : Fin 64) (rest : List (Fin 64)) (s : State) (d : Disposition), s.track.records[i].disposition = some d →
    ∀ t, t = cutHead i rest s →
      t.takeOff = { s.takeOff with gate := d } ∧ t.track.exit = rest ∧ t.track.done = s.track.done ++ [i]
      ∧ t.track.tunnel = s.track.tunnel ∧ t.track.runout = s.track.runout ∧ t.track.free = s.track.free
      ∧ (d = .reject → PendingIfEnabled .rejectCut s t)
      ∧ (s.track.records[i].cutEmitted = false → PendingIfEnabled .cutLate s t)
      ∧ (s.track.done.length = 47 → PendingIfEnabled .doneHigh s t))
  ∧ (∀ s t : State, t = cuts s.track.exit.length s →
    t.track.exit <:+ s.track.exit
    ∧ ∀ i rest r, t.track.exit = i :: rest → r = t.track.records[i] →
        reached (belt s) (outStartOf r + BitVec.ofNat 32 (outLenOf r) + BitVec.ofNat 32 (geometryOf s).cut) = false)
  ∧ ∀ s : State,
    ((s.track.exit = [] ∨ beltLost s = true) → formCutEntry s = s.withTakeOff { s.takeOff with cutEntry := none })
    ∧ ∀ i rest d r, s.track.exit = i :: rest → beltLost s = false → r = s.track.records[i] → r.disposition = some d →
        ∀ aim, aim = outStartOf r + BitVec.ofNat 32 (outLenOf r) + BitVec.ofNat 32 (geometryOf s).cut →
        ((geometryOf s).cutWindow < (aim - belt s).toNat →
          formCutEntry s = s.withTakeOff { s.takeOff with cutEntry := none })
        ∧ ((aim - belt s).toNat ≤ (geometryOf s).cutWindow →
          formCutEntry s = (s.withTrack { s.track with records := s.track.records.set i { r with cutEmitted := true } }).withTakeOff
            { s.takeOff with cutEntry := some { position := aim, record := i, disposition := d } })

/-- The SET section runs from `a`, the least span start of the SET zones, to `b`, their greatest span end (R143). -/
def Sys2Proof.Statements.SetSpan (t : Tunnel) (a b : Nat) : Prop :=
  (∃ (z : Fin 6) (f : ZoneFit), t.zones[z].fit = some f ∧ f.role = .set ∧ f.spanStart = a)
    ∧ (∃ (z : Fin 6) (f : ZoneFit), t.zones[z].fit = some f ∧ f.role = .set ∧ f.spanEnd = b)
    ∧ ∀ (z : Fin 6) (f : ZoneFit), t.zones[z].fit = some f → f.role = .set → a ≤ f.spanStart ∧ f.spanEnd ≤ b

/-- The next panel's pattern: that of a current run with panels remaining, or else of the run that waits first (R82). -/
def Sys2Proof.Statements.IsNextPattern (s : State) (p : Pattern) : Prop :=
  (∃ c, s.seq.current = some c ∧ 0 < c.remaining ∧ s.store.places[c.run.pattern] = some p)
    ∨ ((∀ c, s.seq.current = some c → c.remaining = 0)
        ∧ ∃ r, s.seq.queue.head? = some r ∧ s.store.places[r.pattern] = some p)

/-- The open panel's pattern (R82). -/
def Sys2Proof.Statements.IsOpenPattern (s : State) (p : Pattern) : Prop :=
  ∃ (i : Fin 64) (k : Fin 48), s.seq.openRecord = some i ∧ s.track.records[i].kind = some .panel
    ∧ s.track.records[i].pattern = some k ∧ s.store.places[k] = some p

/-- A pattern that the dwell limit considers, for a SET section that ends at `b`: the next panel's, and that of a PANEL
record in RUNOUT or TUNNEL whose trail edge has not reached `b` (R132). -/
def Sys2Proof.Statements.Considered (s : State) (b : Nat) (p : Pattern) : Prop :=
  IsNextPattern s p ∨ ∃ i ∈ s.track.runout ++ s.track.tunnel, ∃ k : Fin 48,
    s.track.records[i].kind = some .panel ∧ s.track.records[i].pattern = some k ∧ s.store.places[k] = some p
      ∧ ¬EdgeAt (trailAt s s.track.records[i]) b

/-- The dwell limit is `v`: floor(L_set × 10 / T), T the largest minimum dwell considered (R132). -/
def Sys2Proof.Statements.IsDwellLimit (s : State) (v : Nat) : Prop :=
  ∃ (a b : Nat) (p : Pattern), SetSpan s.tunnel a b ∧ Considered s b p
    ∧ (∀ q, Considered s b q → q.minDwell ≤ p.minDwell) ∧ v = (b - a) * 10 / p.minDwell

/-- The feed limit is `v`: floor(V_in_max × 4096 / Rmax), Rmax the larger maximum ratio of the open and the next panel's
pattern, and 4096 with neither (R133). -/
def Sys2Proof.Statements.IsFeedLimit (s : State) (v : Nat) : Prop :=
  ∃ r, v = s.gov.settings.vInMax * 4096 / r
    ∧ ((r = 4096 ∧ ∀ p, ¬IsOpenPattern s p ∧ ¬IsNextPattern s p)
        ∨ ((∃ p, (IsOpenPattern s p ∨ IsNextPattern s p) ∧ p.totals.maxRatio = r)
            ∧ ∀ p, (IsOpenPattern s p ∨ IsNextPattern s p) → p.totals.maxRatio ≤ r))

/-- The place of a limit in the table of section 7.3. -/
def Sys2Proof.Statements.placeInTable : TargetSource → Nat
  | .set => 0
  | .dwell => 1
  | .feed => 2
  | .splice => 3
  | .degrade => 4
  | .none | .stop | .halt => 5

/-- The limits in force, by source (section 7.3). -/
def Sys2Proof.Statements.LimitInForce (s : State) (source : TargetSource) (v : Nat) : Prop :=
  (source = .set ∧ v = s.gov.vSet) ∨ (source = .dwell ∧ IsDwellLimit s v) ∨ (source = .feed ∧ IsFeedLimit s v)
    ∨ (source = .splice ∧ v = s.gov.settings.spliceLimit
        ∧ (s.roll.splice = .matching ∨ s.roll.splice = .paste ∨ s.roll.splice = .clear))
    ∨ (source = .degrade ∧ v = s.gov.settings.degradeLimit ∧ degradePending s.notices = true)

/-- At an ACTIVE arrival the infeed speed is formed with the ratio in force as the passing of that arrival leaves it, from
the command after the ramp step (R136, R69, R76). The order of the blocks is the model's reading (log entry 10). -/
def Sys2Proof.Statements.InfeedTakesThePassedRatio : Prop :=
  ∀ (rx : Reception) (s : State), ActiveArrival rx s → ∀ y, y = beforeInfeed rx s →
    ∀ ratio, ratio = (if infeedLost (sampled rx s) = true then (sampled rx s).folds.ratio
      else (passing (sampled rx s).folds.queue.length (sampled rx s)).folds.ratio) →
    ∃ t, exec (.cycleFrame rx) s = .next t
      ∧ (t.gov.vIn : Int) = max 0 (min (y.gov.settings.vInMax : Int)
          ((((y.gov.command * ratio + 2048) / 4096 : Nat) : Int) + dancerTrim y.gov (quantity y 6)))

/-- The speed of a spindle is the infeed speed when it is ACTIVE, or LOADED with the splice in MATCHING or PASTE, and 0
otherwise (R137). -/
def Sys2Proof.Statements.SpeedUnder (splice : SpliceState) (vIn : Nat) (x : Spindle) (v : Nat) : Prop :=
  v = if x.state = .active ∨ (x.state = .loaded ∧ (splice = .matching ∨ splice = .paste)) then vIn else 0

/-- At an ACTIVE arrival the spindles take their speeds from the infeed speed of that arrival, and from the splice state as
the roll change controller's work and the panel decision leave it (R137, R166). The order of the blocks is the model's reading
(log entry 10), and that a halt deferred to the end of the decision comes after it is its choice (log entry 46). -/
def Sys2Proof.Statements.SpindlesTakeTheDecidedState : Prop :=
  ∀ (rx : Reception) (s : State), ActiveArrival rx s →
    ∀ w, w = (sequencerOutcome rx.frame.timestamp (beforeDecision rx.frame.timestamp (sampled rx s))).1 →
    ∃ t, exec (.cycleFrame rx) s = .next t
      ∧ SpeedUnder w.roll.splice t.gov.vIn w.roll.spindleA t.gov.spindleA
      ∧ SpeedUnder w.roll.splice t.gov.vIn w.roll.spindleB t.gov.spindleB

/-- The target is the least limit in force and names the first source in table order that has it (R131 to R133), unless a
limiting notice of class HALT halts the line at the composition (R134, R126). The command takes one ramp step toward it
(R135), and the infeed and spindle speeds follow from the command (R136, R137). The infeed speed of an arrival takes the
ratio as that arrival's passing left it (R69, R76), also where a GAP or SPLICE opened or the line halted since (log entry
33), and the spindle speeds take the splice state as the panel decision left it, also where the line halted since (log
entries 42 and 46). -/
def Obligations.SpeedsFollowTheLimits : Prop :=
  InfeedTakesThePassedRatio ∧ SpindlesTakeTheDecidedState ∧
  (∀ s t : State, t = compose s → (s.gov.line = .run ∨ (s.gov.line = .stopping ∧ s.gov.rampStarted = false)) →
    (t.gov.line = s.gov.line →
      (∀ x v, LimitInForce s x v → t.gov.target ≤ v) ∧ LimitInForce s t.gov.source t.gov.target
      ∧ ∀ x, LimitInForce s x t.gov.target → placeInTable t.gov.source ≤ placeInTable x)
    ∧ (t.gov.line ≠ s.gov.line → t.gov.line = .halted ∧ t.gov.target = 0))
  ∧ (∀ s : State, ¬(s.gov.line = .run ∨ (s.gov.line = .stopping ∧ s.gov.rampStarted = false)) →
      (compose s).gov.target = 0
      ∧ (compose s).gov.source = (if s.gov.line = .stopping then .stop else if s.gov.line = .halted then .halt else .none))
  ∧ (∀ s : State, s.gov.command ≤ s.gov.settings.vMax → ∀ c, c = (rampStep s).gov.command →
      (s.gov.command ≤ s.gov.target → s.gov.target ≤ s.gov.settings.vMax → c = min (s.gov.command + s.gov.settings.aUp) s.gov.target)
      ∧ (s.gov.target ≤ s.gov.command →
          c = max (s.gov.command - (if s.gov.line = .halted then s.gov.settings.aHalt else s.gov.settings.aDown)) s.gov.target))
  ∧ (∀ (ratio : Nat) (s : State), ∀ q, q = quantity s 6 → (q.lost = true ∨ s.gov.command = 0) →
      (infeedStep ratio s).gov.vIn = min ((s.gov.command * ratio + 2048) / 4096) s.gov.settings.vInMax)
  ∧ (∀ (ratio : Nat) (s : State), ∀ q trim, q = quantity s 6 → q.lost = false → s.gov.command ≠ 0 →
      trim = max (-(s.gov.settings.trimLimit : Int)) (min (s.gov.settings.trimLimit : Int)
        (((s.gov.settings.kp : Int) * ((q.value.toNat : Int) - s.gov.settings.dancerSet)).tdiv 16)) →
      ((infeedStep ratio s).gov.vIn : Int) =
        max 0 (min (s.gov.settings.vInMax : Int) ((((s.gov.command * ratio + 2048) / 4096 : Nat) : Int) + trim)))
  ∧ ∀ (splice : SpliceState) (s : State), ∀ speed : Spindle → Nat, (∀ x, SpeedUnder splice s.gov.vIn x (speed x)) →
      spindleStep splice s = s.withGov { s.gov with spindleA := speed s.roll.spindleA, spindleB := speed s.roll.spindleB }

/-- The transit stamps of an ACTIVE arrival: a record in TUNNEL takes each stamp it lacks once its edge has reached the end
of the SET section, with the arrival's timestamp, and keeps those it has (R155). -/
def Sys2Proof.Statements.TransitsAreStamped : Prop :=
  ∀ (ts : Timestamp) (s t : State), t = transitWork ts s →
    ((beltLost s = true ∨ setSection s.tunnel = none) → t = s)
    ∧ ∀ a b, beltLost s = false → setSection s.tunnel = some (a, b) →
      t = s.withTrack { s.track with records := t.track.records }
      ∧ ∀ (i : Fin 64) (r : TrackRecord), r = s.track.records[i] →
        (i ∉ s.track.tunnel → t.track.records[i] = r)
        ∧ (i ∈ s.track.tunnel → ∃ x : Transits, t.track.records[i] = { r with transits := x }
            ∧ ∀ (edge : Position) (d : Nat) (old new : Option Timestamp),
                ((edge, d, old, new) = (leadAt s r, a, r.transits.leadEntry, x.leadEntry)
                  ∨ (edge, d, old, new) = (leadAt s r, b, r.transits.leadExit, x.leadExit)
                  ∨ (edge, d, old, new) = (trailAt s r, a, r.transits.trailEntry, x.trailEntry)
                  ∨ (edge, d, old, new) = (trailAt s r, b, r.transits.trailExit, x.trailExit)) →
                (old ≠ none → new = old) ∧ (old = none → EdgeAt edge d → new = some ts)
                  ∧ (old = none → ¬EdgeAt edge d → new = none))

/-- A confirmed paste, with the new roll on either spindle: the fed spindle is EXPIRED, the LOADED one ACTIVE with its
reference at INFEED_POS, the joint span stands, the attempts are 0, the splice is CLEAR, and the budget is the new roll's
(R170, R171, R165). -/
def Sys2Proof.Statements.PasteTakesTheNewRoll : Prop :=
  ∀ (s : State) (old new : SpindleName), old ≠ new →
    (spindle s.roll old).state = .active → (spindle s.roll new).state = .loaded → ∀ t, t = confirmPaste s →
      spindle t.roll old = { spindle s.roll old with state := .expired }
      ∧ spindle t.roll new = { spindle s.roll new with state := .active, refPosition := some (infeed s) }
      ∧ t.roll.span = some { j0 := infeed s + BitVec.ofNat 32 (geometryOf s).paster,
                             j1 := infeed s + BitVec.ofNat 32 (geometryOf s).paster + BitVec.ofNat 32 (geometryOf s).spliceLength }
      ∧ t.roll.attempts = 0 ∧ t.roll.splice = .clear
      ∧ (∀ n, (spindle s.roll new).remaining = some n → t.roll.budget = n - (geometryOf s).coreReserve)

/-- Zone crossings and settling (R145 to R147), where a settle count at or below the progress reached settles at once (log
entry 22), the valve's first case that applies (R148 to R150), exposure that keeps its fractions (R152), the transit stamps
(R155), the remaining length of a roll (R163) and the paste confirmation (R170). That the first ACTIVE
arrival after RESET RUN leaves out the integral term (R159), against R150, is the model's choice (log entry 43). -/
def Obligations.ZonesAndRollsFollowTheirRules : Prop :=
  TransitsAreStamped ∧
  (∀ (z : Zone) (q : Quantity), ∀ t, t = q.value.toNat →
    (z.state = .off → zoneUpdate z q = (z, []))
    ∧ (z.state ≠ .off → q.lost = true → zoneUpdate z q = ({ z with state := .lost, progress := 0 }, []))
    ∧ ((z.state = .inBand ∨ z.state = .high) → q.lost = false → t + z.settings.hysteresis < z.settings.bandLow →
        zoneUpdate z q = ({ z with state := .low, progress := 0 }, [.zoneLow]))
    ∧ ((z.state = .inBand ∨ z.state = .low) → q.lost = false → z.settings.bandLow ≤ z.settings.bandHigh →
        z.settings.bandHigh + z.settings.hysteresis < t →
        zoneUpdate z q = ({ z with state := .high, progress := 0 }, [.zoneHigh]))
    ∧ (z.state = .inBand → q.lost = false → z.settings.bandLow ≤ t + z.settings.hysteresis →
        t ≤ z.settings.bandHigh + z.settings.hysteresis → zoneUpdate z q = (z, []))
    ∧ (z.state = .lost → q.lost = false → zoneUpdate z q = zoneUpdate { z with state := .warming, progress := 0 } q)
    ∧ ((z.state = .warming ∨ z.state = .low ∨ z.state = .high) → q.lost = false →
        z.settings.bandLow ≤ t → t ≤ z.settings.bandHigh →
        zoneUpdate z q = (if z.settings.settleCount ≤ z.progress + 1 then { z with state := .inBand, progress := 0 }
          else { z with progress := z.progress + 1 }, []))
    ∧ ((z.state = .warming ∨ z.state = .low ∨ z.state = .high) → q.lost = false →
        (t < z.settings.bandLow ∨ z.settings.bandHigh < t) →
        (z.state = .low → t ≤ z.settings.bandHigh + z.settings.hysteresis) →
        (z.state = .high → z.settings.bandLow ≤ t + z.settings.hysteresis) →
        zoneUpdate z q = ({ z with progress := 0 }, [])))
  ∧ (∀ (first door hold : Bool) (t : Nat) (z : Zone),
    ((z.state = .off ∨ door = true) → valveOf first door hold t z = { z with opening := 0 })
    ∧ (z.state ≠ .off → door = false → hold = true → valveOf first door hold t z = z)
    ∧ (z.state = .lost → door = false → hold = false → valveOf first door hold t z = { z with opening := z.settings.fallback })
    ∧ (z.state ≠ .off → z.state ≠ .lost → door = false → hold = false → ∀ e sum : Int,
        e = (z.settings.setPoint : Int) - t → sum = max 0 (min 256000 ((z.integrator : Int) + z.settings.ki * e)) →
        ((valveOf first door hold t z).integrator : Int) = sum
        ∧ ((valveOf first door hold t z).opening : Int) =
            max 0 (min 1000 ((z.settings.bias : Int) + ((z.settings.kp : Int) * e).tdiv 16
              + if first = true then 0 else sum / 256))))
  ∧ (∀ s : State, (regulateValves s).tunnel.restarted = false ∧ (regulateValves s).tunnel.doorOpen = doorReadsOpen s
    ∧ ∀ z : Fin 6, ∀ q, q = quantity s ⟨8 + z.val, by omega⟩ →
        (regulateValves s).tunnel.zones[z] =
          valveOf s.tunnel.restarted (doorReadsOpen s) s.tunnel.pressureHold q.value.toNat s.tunnel.zones[z])
  ∧ (∀ (interval : Nat) (i : Fin 64) (s : State), ∀ t, t = addExposure interval i s →
    s.track.records[i].offBand + (interval + s.tunnel.residues[i]) / 1000 ≤ 65535 →
    1000 * t.track.records[i].offBand + t.tunnel.residues[i] =
      1000 * s.track.records[i].offBand + s.tunnel.residues[i] + interval ∧ t.tunnel.residues[i] < 1000)
  ∧ (∀ (d : Nat) (r : Roll), (d ≤ r.core → rollLength d r = 0)
      ∧ (r.core < d → rollLength d r = min ((d * d - r.core * r.core) * 3550 / (452 * r.thickness)) 4294967295))
  ∧ PasteTakesTheNewRoll

/-! ### The laws every step keeps -/

/-- The laws hold after power-on. -/
def Obligations.LawsHoldAtReset : Prop :=
  ListsHoldEveryRecordOnce State.reset ∧ SpeedsWithinMaximum State.reset ∧ FoldWorkWithinLimits State.reset
    ∧ TotalsFollowFoldKinds State.reset ∧ NothingOpenAtRest State.reset ∧ FixedNoticesHalt State.reset
    ∧ DeadlineRunsWhileServing State.reset ∧ OneSpindleFeeds State.reset ∧ ValvesWithinRange State.reset

/-- No command loses or duplicates a track record: every one of the 64 stays in exactly one of the five lists (R105). -/
def Obligations.EveryStepKeepsRecordsInOneList : Prop :=
  ∀ s t : State, ListsHoldEveryRecordOnce s → step s = .next t → ListsHoldEveryRecordOnce t

/-- No command takes V_set or the speed command above V_max (R129, R130, R135). -/
def Obligations.EveryStepKeepsSpeedsWithinMaximum : Prop :=
  ∀ s t : State, SpeedsWithinMaximum s → step s = .next t → SpeedsWithinMaximum t

/-- No command takes more than 8 requests in flight or more than 32 entries queued or in flight (R64, R68). -/
def Obligations.EveryStepKeepsFoldWorkWithinLimits : Prop :=
  ∀ s t : State, FoldWorkWithinLimits s → step s = .next t → FoldWorkWithinLimits t

/-- After every command the totals of every stored pattern are those of its record under the fold kind table (R44, R46,
R47, R62). -/
def Obligations.EveryStepKeepsTotalsTrue : Prop :=
  ∀ s t : State, TotalsFollowFoldKinds s → step s = .next t → TotalsFollowFoldKinds t

/-- No command leaves a record open on a line that stands (R98, R125, R127). -/
def Obligations.EveryStepLeavesNothingOpenAtRest : Prop :=
  ∀ s t : State, NothingOpenAtRest s → step s = .next t → NothingOpenAtRest t

/-- No command leaves a running line without an ACTIVE spindle, or two spindles ACTIVE (R160, R162, R170). -/
def Obligations.EveryStepKeepsOneSpindleFeeding : Prop :=
  ∀ s t : State, OneSpindleFeeds s → step s = .next t → OneSpindleFeeds t

/-- Every command keeps the fixed notices HALT (R187, R190), the silence deadline running exactly in LISTEN and ACTIVE
(R6), and the valves in range (R140, R144, R148, R150). -/
def Obligations.EveryStepKeepsRoutesDeadlineAndValves : Prop :=
  ∀ s t : State, step s = .next t →
    (FixedNoticesHalt s → FixedNoticesHalt t) ∧ (DeadlineRunsWhileServing s → DeadlineRunsWhileServing t)
      ∧ (ValvesWithinRange s → ValvesWithinRange t)

/-! ### The statements made of the parts above -/

/-- With no command waiting the part idles (log entry 12), and a presence byte other than 0 and 1 is refused (log entry
5): both the model's choices. -/
def Obligations.ModelChoicesOnIdlingAndPresenceBytes : Prop :=
  StepWithNoCommandIdles ∧ MalformedPresenceIsRefused

/-- State.reset and POWER_ON hold every reset table's power-on column (R2, R18 and the reset tables of the blocks). The
model's choices: straps, pins and timer (log entry 2), group and first line of a conversion entry at 0 (log entry 30), the
notes of a RESET RUN (log entry 43) and of records behind the knife (log entry 47), and neither reply nor forwarded frame (log entry 24). -/
def Obligations.PowerOnLeavesPowerOnValues : Prop :=
  ResetStateHoldsPowerOnValues ∧ PowerOnGivesPowerOnValues

/-- RESET with its two scopes (R199, R200). Group and first line of a conversion entry at 0 (log entry
30) and the notes of a RESET RUN (log entry 43) and of records behind the knife (log entry 47) are the model's. -/
def Obligations.ResetLeavesItsColumn : Prop :=
  ResetRunGivesRunColumn ∧ ResetFullGivesPowerOnValues

/-- GO_ACTIVE, GO_LISTEN, RESYNC (R10) and IDENTIFY (R17). -/
def Obligations.PortRequests : Prop :=
  PortRequestsMoveThePort ∧ IdentifyRepliesAndClears

/-- WRITE_WINDOW (R11), WRITE_COMMAND_MAP (R12) and SET_CYCLE (R13). -/
def Obligations.PortTableWrites : Prop :=
  WindowAndMapWrites ∧ SetCycleTakesBothValues

/-- WRITE_CONVERSION: what it writes, field by field, and which operands it takes (R20). A yes-or-no field is 0 for yes (log
entry 6), fields of the other source are not checked (log entry 9), and a validity presence byte other
than 0 and 1 is refused (log entry 5): the model's choices. -/
def Obligations.ConversionWrites : Prop :=
  WriteConversionRebasesItsQuantity ∧ ConversionOperandsTaken ∧ ConversionEntryHoldsItsOperands

/-- WRITE_LINE_SETUP (R37) and SET_LINES (R38). -/
def Obligations.LineRequests : Prop :=
  WriteLineSetupReplacesTheGroup ∧ LineSetupOperandsRead ∧ SetLinesSetsManualValues

/-- READ_ORDERS (R99), READ_ZONES (R158) and READ_ROLLS (R176) report and change nothing. -/
def Obligations.OrdersZonesAndRollsAreReported : Prop :=
  ReadOrdersReportsTheSequencer ∧ ReadZonesReportsTheTunnel ∧ ReadRollsReportsTheSpindles

/-- READ_RECORD (R116) and COLLECT (R117). -/
def Obligations.RecordsAreReportedAndCollected : Prop :=
  ReadRecordReportsTheRecord ∧ CollectReleasesTheHeadOfDone

/-- WRITE_GEOMETRY (R109), WRITE_SPLICE_SETTINGS (R175), WRITE_SPEED_LIMITS (R130) and SET_SPEED (R129).
Where the relation of two operands counts is the model's reading (log entry 7); that the reply of WRITE_SPEED_LIMITS says by a
1 that a value was lowered is its choice (log entry 6). -/
def Obligations.SettingsAndSpeedWrites : Prop :=
  SettingsAreWrittenWhole ∧ SetSpeedIsClampedToMaximum

/-- APPEND_RUN (R79), HOLD_PANELS, RELEASE_PANELS (R94), SET_ORDER_LOW (R81), and SET_PRESSURE_MIN (R149). -/
def Obligations.SequencerRequests : Prop :=
  AppendRunJoinsTheTail ∧ SingleItemWrites

/-- ENTER_CONFIG (R120), LEAVE_CONFIG (R121) and STOP (R123). -/
def Obligations.LineStateRequests : Prop :=
  ConfigurationIsEnteredAndLeft ∧ StopBeginsTheControlledStop

/-- WRITE_ZONE (R141) and ZONE_ENABLE (R144). -/
def Obligations.ZoneRequests : Prop :=
  WriteZoneReplacesTheZone ∧ ZoneEnableSwitchesTheZone

/-- LOAD_ROLL (R161), UNLOAD_ROLL (R162) and SPLICE_CANCEL (R173). -/
def Obligations.SpindleRequests : Prop :=
  LoadRollTakesTheRoll ∧ UnloadRollEmptiesTheSpindle ∧ SpliceCancelRestsTheController

/-- WRITE_NOTICE_ROUTE (R190), SET_REPORT_MASK (R191) and CLEAR_NOTICES (R193). A route is enabled by 0 and disabled by 1:
the model's choice (log entry 6). -/
def Obligations.NoticeRequests : Prop :=
  WriteNoticeRouteReplacesTheRoute ∧ MaskAndClearing

/-- MATCH_COMPLETE, MATCH_TIMEOUT (R169), PASTE_TIMEOUT (R170), ZONE_SETTLED (R146) and TRIM_AT_LIMIT_COUNT (R136).
That a timeout is measured by two timestamps is the model's choice (log entry 32).
That an event answers as its frame does is the model's reading (log entry 3), as are the order of the blocks that the states
before each event rest on (log entry 10), the settle count at or below the progress (log entry 22), and that a frame which
comes as the timer reaches the deadline is taken first (log entry 11). -/
def Obligations.EventsOfAnActiveArrival : Prop :=
  MatchingAndPastingEnd ∧ CountsOfAnActiveArrivalComplete
end

