-- ==== Sys2Proof/Laws/State.lean ====
section
/-! SUPPORT. What each update of the state writes and leaves: one lemma for each field and update, all true by `rfl`. -/

namespace Sys2Proof.Machine

@[simp] theorem State.withPort_port (s : State) (x : RingPort) : (s.withPort x).port = x := rfl
@[simp] theorem State.withPort_converter (s : State) (x : RingPort) : (s.withPort x).converter = s.converter := rfl
@[simp] theorem State.withPort_lines (s : State) (x : RingPort) : (s.withPort x).lines = s.lines := rfl
@[simp] theorem State.withPort_store (s : State) (x : RingPort) : (s.withPort x).store = s.store := rfl
@[simp] theorem State.withPort_folds (s : State) (x : RingPort) : (s.withPort x).folds = s.folds := rfl
@[simp] theorem State.withPort_seq (s : State) (x : RingPort) : (s.withPort x).seq = s.seq := rfl
@[simp] theorem State.withPort_track (s : State) (x : RingPort) : (s.withPort x).track = s.track := rfl
@[simp] theorem State.withPort_gov (s : State) (x : RingPort) : (s.withPort x).gov = s.gov := rfl
@[simp] theorem State.withPort_tunnel (s : State) (x : RingPort) : (s.withPort x).tunnel = s.tunnel := rfl
@[simp] theorem State.withPort_roll (s : State) (x : RingPort) : (s.withPort x).roll = s.roll := rfl
@[simp] theorem State.withPort_takeOff (s : State) (x : RingPort) : (s.withPort x).takeOff = s.takeOff := rfl
@[simp] theorem State.withPort_notices (s : State) (x : RingPort) : (s.withPort x).notices = s.notices := rfl
@[simp] theorem State.withPort_timer (s : State) (x : RingPort) : (s.withPort x).timer = s.timer := rfl
@[simp] theorem State.withPort_reply (s : State) (x : RingPort) : (s.withPort x).reply = s.reply := rfl
@[simp] theorem State.withPort_downstream (s : State) (x : RingPort) : (s.withPort x).downstream = s.downstream := rfl
@[simp] theorem State.withPort_freeIndex (s : State) (x : RingPort) : (s.withPort x).freeIndex = s.freeIndex := rfl
@[simp] theorem State.withPort_pending (s : State) (x : RingPort) : (s.withPort x).pending = s.pending := rfl

@[simp] theorem State.withConverter_port (s : State) (x : Converter) : (s.withConverter x).port = s.port := rfl
@[simp] theorem State.withConverter_converter (s : State) (x : Converter) : (s.withConverter x).converter = x := rfl
@[simp] theorem State.withConverter_lines (s : State) (x : Converter) : (s.withConverter x).lines = s.lines := rfl
@[simp] theorem State.withConverter_store (s : State) (x : Converter) : (s.withConverter x).store = s.store := rfl
@[simp] theorem State.withConverter_folds (s : State) (x : Converter) : (s.withConverter x).folds = s.folds := rfl
@[simp] theorem State.withConverter_seq (s : State) (x : Converter) : (s.withConverter x).seq = s.seq := rfl
@[simp] theorem State.withConverter_track (s : State) (x : Converter) : (s.withConverter x).track = s.track := rfl
@[simp] theorem State.withConverter_gov (s : State) (x : Converter) : (s.withConverter x).gov = s.gov := rfl
@[simp] theorem State.withConverter_tunnel (s : State) (x : Converter) : (s.withConverter x).tunnel = s.tunnel := rfl
@[simp] theorem State.withConverter_roll (s : State) (x : Converter) : (s.withConverter x).roll = s.roll := rfl
@[simp] theorem State.withConverter_takeOff (s : State) (x : Converter) : (s.withConverter x).takeOff = s.takeOff := rfl
@[simp] theorem State.withConverter_notices (s : State) (x : Converter) : (s.withConverter x).notices = s.notices := rfl
@[simp] theorem State.withConverter_timer (s : State) (x : Converter) : (s.withConverter x).timer = s.timer := rfl
@[simp] theorem State.withConverter_reply (s : State) (x : Converter) : (s.withConverter x).reply = s.reply := rfl
@[simp] theorem State.withConverter_downstream (s : State) (x : Converter) : (s.withConverter x).downstream = s.downstream := rfl
@[simp] theorem State.withConverter_freeIndex (s : State) (x : Converter) : (s.withConverter x).freeIndex = s.freeIndex := rfl
@[simp] theorem State.withConverter_pending (s : State) (x : Converter) : (s.withConverter x).pending = s.pending := rfl

@[simp] theorem State.withLines_port (s : State) (x : FieldLines) : (s.withLines x).port = s.port := rfl
@[simp] theorem State.withLines_converter (s : State) (x : FieldLines) : (s.withLines x).converter = s.converter := rfl
@[simp] theorem State.withLines_lines (s : State) (x : FieldLines) : (s.withLines x).lines = x := rfl
@[simp] theorem State.withLines_store (s : State) (x : FieldLines) : (s.withLines x).store = s.store := rfl
@[simp] theorem State.withLines_folds (s : State) (x : FieldLines) : (s.withLines x).folds = s.folds := rfl
@[simp] theorem State.withLines_seq (s : State) (x : FieldLines) : (s.withLines x).seq = s.seq := rfl
@[simp] theorem State.withLines_track (s : State) (x : FieldLines) : (s.withLines x).track = s.track := rfl
@[simp] theorem State.withLines_gov (s : State) (x : FieldLines) : (s.withLines x).gov = s.gov := rfl
@[simp] theorem State.withLines_tunnel (s : State) (x : FieldLines) : (s.withLines x).tunnel = s.tunnel := rfl
@[simp] theorem State.withLines_roll (s : State) (x : FieldLines) : (s.withLines x).roll = s.roll := rfl
@[simp] theorem State.withLines_takeOff (s : State) (x : FieldLines) : (s.withLines x).takeOff = s.takeOff := rfl
@[simp] theorem State.withLines_notices (s : State) (x : FieldLines) : (s.withLines x).notices = s.notices := rfl
@[simp] theorem State.withLines_timer (s : State) (x : FieldLines) : (s.withLines x).timer = s.timer := rfl
@[simp] theorem State.withLines_reply (s : State) (x : FieldLines) : (s.withLines x).reply = s.reply := rfl
@[simp] theorem State.withLines_downstream (s : State) (x : FieldLines) : (s.withLines x).downstream = s.downstream := rfl
@[simp] theorem State.withLines_freeIndex (s : State) (x : FieldLines) : (s.withLines x).freeIndex = s.freeIndex := rfl
@[simp] theorem State.withLines_pending (s : State) (x : FieldLines) : (s.withLines x).pending = s.pending := rfl

@[simp] theorem State.withStore_port (s : State) (x : PatternStore) : (s.withStore x).port = s.port := rfl
@[simp] theorem State.withStore_converter (s : State) (x : PatternStore) : (s.withStore x).converter = s.converter := rfl
@[simp] theorem State.withStore_lines (s : State) (x : PatternStore) : (s.withStore x).lines = s.lines := rfl
@[simp] theorem State.withStore_store (s : State) (x : PatternStore) : (s.withStore x).store = x := rfl
@[simp] theorem State.withStore_folds (s : State) (x : PatternStore) : (s.withStore x).folds = s.folds := rfl
@[simp] theorem State.withStore_seq (s : State) (x : PatternStore) : (s.withStore x).seq = s.seq := rfl
@[simp] theorem State.withStore_track (s : State) (x : PatternStore) : (s.withStore x).track = s.track := rfl
@[simp] theorem State.withStore_gov (s : State) (x : PatternStore) : (s.withStore x).gov = s.gov := rfl
@[simp] theorem State.withStore_tunnel (s : State) (x : PatternStore) : (s.withStore x).tunnel = s.tunnel := rfl
@[simp] theorem State.withStore_roll (s : State) (x : PatternStore) : (s.withStore x).roll = s.roll := rfl
@[simp] theorem State.withStore_takeOff (s : State) (x : PatternStore) : (s.withStore x).takeOff = s.takeOff := rfl
@[simp] theorem State.withStore_notices (s : State) (x : PatternStore) : (s.withStore x).notices = s.notices := rfl
@[simp] theorem State.withStore_timer (s : State) (x : PatternStore) : (s.withStore x).timer = s.timer := rfl
@[simp] theorem State.withStore_reply (s : State) (x : PatternStore) : (s.withStore x).reply = s.reply := rfl
@[simp] theorem State.withStore_downstream (s : State) (x : PatternStore) : (s.withStore x).downstream = s.downstream := rfl
@[simp] theorem State.withStore_freeIndex (s : State) (x : PatternStore) : (s.withStore x).freeIndex = s.freeIndex := rfl
@[simp] theorem State.withStore_pending (s : State) (x : PatternStore) : (s.withStore x).pending = s.pending := rfl

@[simp] theorem State.withFolds_port (s : State) (x : Calculator) : (s.withFolds x).port = s.port := rfl
@[simp] theorem State.withFolds_converter (s : State) (x : Calculator) : (s.withFolds x).converter = s.converter := rfl
@[simp] theorem State.withFolds_lines (s : State) (x : Calculator) : (s.withFolds x).lines = s.lines := rfl
@[simp] theorem State.withFolds_store (s : State) (x : Calculator) : (s.withFolds x).store = s.store := rfl
@[simp] theorem State.withFolds_folds (s : State) (x : Calculator) : (s.withFolds x).folds = x := rfl
@[simp] theorem State.withFolds_seq (s : State) (x : Calculator) : (s.withFolds x).seq = s.seq := rfl
@[simp] theorem State.withFolds_track (s : State) (x : Calculator) : (s.withFolds x).track = s.track := rfl
@[simp] theorem State.withFolds_gov (s : State) (x : Calculator) : (s.withFolds x).gov = s.gov := rfl
@[simp] theorem State.withFolds_tunnel (s : State) (x : Calculator) : (s.withFolds x).tunnel = s.tunnel := rfl
@[simp] theorem State.withFolds_roll (s : State) (x : Calculator) : (s.withFolds x).roll = s.roll := rfl
@[simp] theorem State.withFolds_takeOff (s : State) (x : Calculator) : (s.withFolds x).takeOff = s.takeOff := rfl
@[simp] theorem State.withFolds_notices (s : State) (x : Calculator) : (s.withFolds x).notices = s.notices := rfl
@[simp] theorem State.withFolds_timer (s : State) (x : Calculator) : (s.withFolds x).timer = s.timer := rfl
@[simp] theorem State.withFolds_reply (s : State) (x : Calculator) : (s.withFolds x).reply = s.reply := rfl
@[simp] theorem State.withFolds_downstream (s : State) (x : Calculator) : (s.withFolds x).downstream = s.downstream := rfl
@[simp] theorem State.withFolds_freeIndex (s : State) (x : Calculator) : (s.withFolds x).freeIndex = s.freeIndex := rfl
@[simp] theorem State.withFolds_pending (s : State) (x : Calculator) : (s.withFolds x).pending = s.pending := rfl

@[simp] theorem State.withSeq_port (s : State) (x : Sequencer) : (s.withSeq x).port = s.port := rfl
@[simp] theorem State.withSeq_converter (s : State) (x : Sequencer) : (s.withSeq x).converter = s.converter := rfl
@[simp] theorem State.withSeq_lines (s : State) (x : Sequencer) : (s.withSeq x).lines = s.lines := rfl
@[simp] theorem State.withSeq_store (s : State) (x : Sequencer) : (s.withSeq x).store = s.store := rfl
@[simp] theorem State.withSeq_folds (s : State) (x : Sequencer) : (s.withSeq x).folds = s.folds := rfl
@[simp] theorem State.withSeq_seq (s : State) (x : Sequencer) : (s.withSeq x).seq = x := rfl
@[simp] theorem State.withSeq_track (s : State) (x : Sequencer) : (s.withSeq x).track = s.track := rfl
@[simp] theorem State.withSeq_gov (s : State) (x : Sequencer) : (s.withSeq x).gov = s.gov := rfl
@[simp] theorem State.withSeq_tunnel (s : State) (x : Sequencer) : (s.withSeq x).tunnel = s.tunnel := rfl
@[simp] theorem State.withSeq_roll (s : State) (x : Sequencer) : (s.withSeq x).roll = s.roll := rfl
@[simp] theorem State.withSeq_takeOff (s : State) (x : Sequencer) : (s.withSeq x).takeOff = s.takeOff := rfl
@[simp] theorem State.withSeq_notices (s : State) (x : Sequencer) : (s.withSeq x).notices = s.notices := rfl
@[simp] theorem State.withSeq_timer (s : State) (x : Sequencer) : (s.withSeq x).timer = s.timer := rfl
@[simp] theorem State.withSeq_reply (s : State) (x : Sequencer) : (s.withSeq x).reply = s.reply := rfl
@[simp] theorem State.withSeq_downstream (s : State) (x : Sequencer) : (s.withSeq x).downstream = s.downstream := rfl
@[simp] theorem State.withSeq_freeIndex (s : State) (x : Sequencer) : (s.withSeq x).freeIndex = s.freeIndex := rfl
@[simp] theorem State.withSeq_pending (s : State) (x : Sequencer) : (s.withSeq x).pending = s.pending := rfl

@[simp] theorem State.withTrack_port (s : State) (x : Track) : (s.withTrack x).port = s.port := rfl
@[simp] theorem State.withTrack_converter (s : State) (x : Track) : (s.withTrack x).converter = s.converter := rfl
@[simp] theorem State.withTrack_lines (s : State) (x : Track) : (s.withTrack x).lines = s.lines := rfl
@[simp] theorem State.withTrack_store (s : State) (x : Track) : (s.withTrack x).store = s.store := rfl
@[simp] theorem State.withTrack_folds (s : State) (x : Track) : (s.withTrack x).folds = s.folds := rfl
@[simp] theorem State.withTrack_seq (s : State) (x : Track) : (s.withTrack x).seq = s.seq := rfl
@[simp] theorem State.withTrack_track (s : State) (x : Track) : (s.withTrack x).track = x := rfl
@[simp] theorem State.withTrack_gov (s : State) (x : Track) : (s.withTrack x).gov = s.gov := rfl
@[simp] theorem State.withTrack_tunnel (s : State) (x : Track) : (s.withTrack x).tunnel = s.tunnel := rfl
@[simp] theorem State.withTrack_roll (s : State) (x : Track) : (s.withTrack x).roll = s.roll := rfl
@[simp] theorem State.withTrack_takeOff (s : State) (x : Track) : (s.withTrack x).takeOff = s.takeOff := rfl
@[simp] theorem State.withTrack_notices (s : State) (x : Track) : (s.withTrack x).notices = s.notices := rfl
@[simp] theorem State.withTrack_timer (s : State) (x : Track) : (s.withTrack x).timer = s.timer := rfl
@[simp] theorem State.withTrack_reply (s : State) (x : Track) : (s.withTrack x).reply = s.reply := rfl
@[simp] theorem State.withTrack_downstream (s : State) (x : Track) : (s.withTrack x).downstream = s.downstream := rfl
@[simp] theorem State.withTrack_freeIndex (s : State) (x : Track) : (s.withTrack x).freeIndex = s.freeIndex := rfl
@[simp] theorem State.withTrack_pending (s : State) (x : Track) : (s.withTrack x).pending = s.pending := rfl

@[simp] theorem State.withGov_port (s : State) (x : Governor) : (s.withGov x).port = s.port := rfl
@[simp] theorem State.withGov_converter (s : State) (x : Governor) : (s.withGov x).converter = s.converter := rfl
@[simp] theorem State.withGov_lines (s : State) (x : Governor) : (s.withGov x).lines = s.lines := rfl
@[simp] theorem State.withGov_store (s : State) (x : Governor) : (s.withGov x).store = s.store := rfl
@[simp] theorem State.withGov_folds (s : State) (x : Governor) : (s.withGov x).folds = s.folds := rfl
@[simp] theorem State.withGov_seq (s : State) (x : Governor) : (s.withGov x).seq = s.seq := rfl
@[simp] theorem State.withGov_track (s : State) (x : Governor) : (s.withGov x).track = s.track := rfl
@[simp] theorem State.withGov_gov (s : State) (x : Governor) : (s.withGov x).gov = x := rfl
@[simp] theorem State.withGov_tunnel (s : State) (x : Governor) : (s.withGov x).tunnel = s.tunnel := rfl
@[simp] theorem State.withGov_roll (s : State) (x : Governor) : (s.withGov x).roll = s.roll := rfl
@[simp] theorem State.withGov_takeOff (s : State) (x : Governor) : (s.withGov x).takeOff = s.takeOff := rfl
@[simp] theorem State.withGov_notices (s : State) (x : Governor) : (s.withGov x).notices = s.notices := rfl
@[simp] theorem State.withGov_timer (s : State) (x : Governor) : (s.withGov x).timer = s.timer := rfl
@[simp] theorem State.withGov_reply (s : State) (x : Governor) : (s.withGov x).reply = s.reply := rfl
@[simp] theorem State.withGov_downstream (s : State) (x : Governor) : (s.withGov x).downstream = s.downstream := rfl
@[simp] theorem State.withGov_freeIndex (s : State) (x : Governor) : (s.withGov x).freeIndex = s.freeIndex := rfl
@[simp] theorem State.withGov_pending (s : State) (x : Governor) : (s.withGov x).pending = s.pending := rfl

@[simp] theorem State.withTunnel_port (s : State) (x : Tunnel) : (s.withTunnel x).port = s.port := rfl
@[simp] theorem State.withTunnel_converter (s : State) (x : Tunnel) : (s.withTunnel x).converter = s.converter := rfl
@[simp] theorem State.withTunnel_lines (s : State) (x : Tunnel) : (s.withTunnel x).lines = s.lines := rfl
@[simp] theorem State.withTunnel_store (s : State) (x : Tunnel) : (s.withTunnel x).store = s.store := rfl
@[simp] theorem State.withTunnel_folds (s : State) (x : Tunnel) : (s.withTunnel x).folds = s.folds := rfl
@[simp] theorem State.withTunnel_seq (s : State) (x : Tunnel) : (s.withTunnel x).seq = s.seq := rfl
@[simp] theorem State.withTunnel_track (s : State) (x : Tunnel) : (s.withTunnel x).track = s.track := rfl
@[simp] theorem State.withTunnel_gov (s : State) (x : Tunnel) : (s.withTunnel x).gov = s.gov := rfl
@[simp] theorem State.withTunnel_tunnel (s : State) (x : Tunnel) : (s.withTunnel x).tunnel = x := rfl
@[simp] theorem State.withTunnel_roll (s : State) (x : Tunnel) : (s.withTunnel x).roll = s.roll := rfl
@[simp] theorem State.withTunnel_takeOff (s : State) (x : Tunnel) : (s.withTunnel x).takeOff = s.takeOff := rfl
@[simp] theorem State.withTunnel_notices (s : State) (x : Tunnel) : (s.withTunnel x).notices = s.notices := rfl
@[simp] theorem State.withTunnel_timer (s : State) (x : Tunnel) : (s.withTunnel x).timer = s.timer := rfl
@[simp] theorem State.withTunnel_reply (s : State) (x : Tunnel) : (s.withTunnel x).reply = s.reply := rfl
@[simp] theorem State.withTunnel_downstream (s : State) (x : Tunnel) : (s.withTunnel x).downstream = s.downstream := rfl
@[simp] theorem State.withTunnel_freeIndex (s : State) (x : Tunnel) : (s.withTunnel x).freeIndex = s.freeIndex := rfl
@[simp] theorem State.withTunnel_pending (s : State) (x : Tunnel) : (s.withTunnel x).pending = s.pending := rfl

@[simp] theorem State.withRoll_port (s : State) (x : RollChange) : (s.withRoll x).port = s.port := rfl
@[simp] theorem State.withRoll_converter (s : State) (x : RollChange) : (s.withRoll x).converter = s.converter := rfl
@[simp] theorem State.withRoll_lines (s : State) (x : RollChange) : (s.withRoll x).lines = s.lines := rfl
@[simp] theorem State.withRoll_store (s : State) (x : RollChange) : (s.withRoll x).store = s.store := rfl
@[simp] theorem State.withRoll_folds (s : State) (x : RollChange) : (s.withRoll x).folds = s.folds := rfl
@[simp] theorem State.withRoll_seq (s : State) (x : RollChange) : (s.withRoll x).seq = s.seq := rfl
@[simp] theorem State.withRoll_track (s : State) (x : RollChange) : (s.withRoll x).track = s.track := rfl
@[simp] theorem State.withRoll_gov (s : State) (x : RollChange) : (s.withRoll x).gov = s.gov := rfl
@[simp] theorem State.withRoll_tunnel (s : State) (x : RollChange) : (s.withRoll x).tunnel = s.tunnel := rfl
@[simp] theorem State.withRoll_roll (s : State) (x : RollChange) : (s.withRoll x).roll = x := rfl
@[simp] theorem State.withRoll_takeOff (s : State) (x : RollChange) : (s.withRoll x).takeOff = s.takeOff := rfl
@[simp] theorem State.withRoll_notices (s : State) (x : RollChange) : (s.withRoll x).notices = s.notices := rfl
@[simp] theorem State.withRoll_timer (s : State) (x : RollChange) : (s.withRoll x).timer = s.timer := rfl
@[simp] theorem State.withRoll_reply (s : State) (x : RollChange) : (s.withRoll x).reply = s.reply := rfl
@[simp] theorem State.withRoll_downstream (s : State) (x : RollChange) : (s.withRoll x).downstream = s.downstream := rfl
@[simp] theorem State.withRoll_freeIndex (s : State) (x : RollChange) : (s.withRoll x).freeIndex = s.freeIndex := rfl
@[simp] theorem State.withRoll_pending (s : State) (x : RollChange) : (s.withRoll x).pending = s.pending := rfl

@[simp] theorem State.withTakeOff_port (s : State) (x : TakeOff) : (s.withTakeOff x).port = s.port := rfl
@[simp] theorem State.withTakeOff_converter (s : State) (x : TakeOff) : (s.withTakeOff x).converter = s.converter := rfl
@[simp] theorem State.withTakeOff_lines (s : State) (x : TakeOff) : (s.withTakeOff x).lines = s.lines := rfl
@[simp] theorem State.withTakeOff_store (s : State) (x : TakeOff) : (s.withTakeOff x).store = s.store := rfl
@[simp] theorem State.withTakeOff_folds (s : State) (x : TakeOff) : (s.withTakeOff x).folds = s.folds := rfl
@[simp] theorem State.withTakeOff_seq (s : State) (x : TakeOff) : (s.withTakeOff x).seq = s.seq := rfl
@[simp] theorem State.withTakeOff_track (s : State) (x : TakeOff) : (s.withTakeOff x).track = s.track := rfl
@[simp] theorem State.withTakeOff_gov (s : State) (x : TakeOff) : (s.withTakeOff x).gov = s.gov := rfl
@[simp] theorem State.withTakeOff_tunnel (s : State) (x : TakeOff) : (s.withTakeOff x).tunnel = s.tunnel := rfl
@[simp] theorem State.withTakeOff_roll (s : State) (x : TakeOff) : (s.withTakeOff x).roll = s.roll := rfl
@[simp] theorem State.withTakeOff_takeOff (s : State) (x : TakeOff) : (s.withTakeOff x).takeOff = x := rfl
@[simp] theorem State.withTakeOff_notices (s : State) (x : TakeOff) : (s.withTakeOff x).notices = s.notices := rfl
@[simp] theorem State.withTakeOff_timer (s : State) (x : TakeOff) : (s.withTakeOff x).timer = s.timer := rfl
@[simp] theorem State.withTakeOff_reply (s : State) (x : TakeOff) : (s.withTakeOff x).reply = s.reply := rfl
@[simp] theorem State.withTakeOff_downstream (s : State) (x : TakeOff) : (s.withTakeOff x).downstream = s.downstream := rfl
@[simp] theorem State.withTakeOff_freeIndex (s : State) (x : TakeOff) : (s.withTakeOff x).freeIndex = s.freeIndex := rfl
@[simp] theorem State.withTakeOff_pending (s : State) (x : TakeOff) : (s.withTakeOff x).pending = s.pending := rfl

@[simp] theorem State.withNotices_port (s : State) (x : Notices) : (s.withNotices x).port = s.port := rfl
@[simp] theorem State.withNotices_converter (s : State) (x : Notices) : (s.withNotices x).converter = s.converter := rfl
@[simp] theorem State.withNotices_lines (s : State) (x : Notices) : (s.withNotices x).lines = s.lines := rfl
@[simp] theorem State.withNotices_store (s : State) (x : Notices) : (s.withNotices x).store = s.store := rfl
@[simp] theorem State.withNotices_folds (s : State) (x : Notices) : (s.withNotices x).folds = s.folds := rfl
@[simp] theorem State.withNotices_seq (s : State) (x : Notices) : (s.withNotices x).seq = s.seq := rfl
@[simp] theorem State.withNotices_track (s : State) (x : Notices) : (s.withNotices x).track = s.track := rfl
@[simp] theorem State.withNotices_gov (s : State) (x : Notices) : (s.withNotices x).gov = s.gov := rfl
@[simp] theorem State.withNotices_tunnel (s : State) (x : Notices) : (s.withNotices x).tunnel = s.tunnel := rfl
@[simp] theorem State.withNotices_roll (s : State) (x : Notices) : (s.withNotices x).roll = s.roll := rfl
@[simp] theorem State.withNotices_takeOff (s : State) (x : Notices) : (s.withNotices x).takeOff = s.takeOff := rfl
@[simp] theorem State.withNotices_notices (s : State) (x : Notices) : (s.withNotices x).notices = x := rfl
@[simp] theorem State.withNotices_timer (s : State) (x : Notices) : (s.withNotices x).timer = s.timer := rfl
@[simp] theorem State.withNotices_reply (s : State) (x : Notices) : (s.withNotices x).reply = s.reply := rfl
@[simp] theorem State.withNotices_downstream (s : State) (x : Notices) : (s.withNotices x).downstream = s.downstream := rfl
@[simp] theorem State.withNotices_freeIndex (s : State) (x : Notices) : (s.withNotices x).freeIndex = s.freeIndex := rfl
@[simp] theorem State.withNotices_pending (s : State) (x : Notices) : (s.withNotices x).pending = s.pending := rfl

@[simp] theorem State.withTimer_port (s : State) (x : Nat) : (s.withTimer x).port = s.port := rfl
@[simp] theorem State.withTimer_converter (s : State) (x : Nat) : (s.withTimer x).converter = s.converter := rfl
@[simp] theorem State.withTimer_lines (s : State) (x : Nat) : (s.withTimer x).lines = s.lines := rfl
@[simp] theorem State.withTimer_store (s : State) (x : Nat) : (s.withTimer x).store = s.store := rfl
@[simp] theorem State.withTimer_folds (s : State) (x : Nat) : (s.withTimer x).folds = s.folds := rfl
@[simp] theorem State.withTimer_seq (s : State) (x : Nat) : (s.withTimer x).seq = s.seq := rfl
@[simp] theorem State.withTimer_track (s : State) (x : Nat) : (s.withTimer x).track = s.track := rfl
@[simp] theorem State.withTimer_gov (s : State) (x : Nat) : (s.withTimer x).gov = s.gov := rfl
@[simp] theorem State.withTimer_tunnel (s : State) (x : Nat) : (s.withTimer x).tunnel = s.tunnel := rfl
@[simp] theorem State.withTimer_roll (s : State) (x : Nat) : (s.withTimer x).roll = s.roll := rfl
@[simp] theorem State.withTimer_takeOff (s : State) (x : Nat) : (s.withTimer x).takeOff = s.takeOff := rfl
@[simp] theorem State.withTimer_notices (s : State) (x : Nat) : (s.withTimer x).notices = s.notices := rfl
@[simp] theorem State.withTimer_timer (s : State) (x : Nat) : (s.withTimer x).timer = x := rfl
@[simp] theorem State.withTimer_reply (s : State) (x : Nat) : (s.withTimer x).reply = s.reply := rfl
@[simp] theorem State.withTimer_downstream (s : State) (x : Nat) : (s.withTimer x).downstream = s.downstream := rfl
@[simp] theorem State.withTimer_freeIndex (s : State) (x : Nat) : (s.withTimer x).freeIndex = s.freeIndex := rfl
@[simp] theorem State.withTimer_pending (s : State) (x : Nat) : (s.withTimer x).pending = s.pending := rfl

@[simp] theorem State.withReply_port (s : State) (x : Option Reply) : (s.withReply x).port = s.port := rfl
@[simp] theorem State.withReply_converter (s : State) (x : Option Reply) : (s.withReply x).converter = s.converter := rfl
@[simp] theorem State.withReply_lines (s : State) (x : Option Reply) : (s.withReply x).lines = s.lines := rfl
@[simp] theorem State.withReply_store (s : State) (x : Option Reply) : (s.withReply x).store = s.store := rfl
@[simp] theorem State.withReply_folds (s : State) (x : Option Reply) : (s.withReply x).folds = s.folds := rfl
@[simp] theorem State.withReply_seq (s : State) (x : Option Reply) : (s.withReply x).seq = s.seq := rfl
@[simp] theorem State.withReply_track (s : State) (x : Option Reply) : (s.withReply x).track = s.track := rfl
@[simp] theorem State.withReply_gov (s : State) (x : Option Reply) : (s.withReply x).gov = s.gov := rfl
@[simp] theorem State.withReply_tunnel (s : State) (x : Option Reply) : (s.withReply x).tunnel = s.tunnel := rfl
@[simp] theorem State.withReply_roll (s : State) (x : Option Reply) : (s.withReply x).roll = s.roll := rfl
@[simp] theorem State.withReply_takeOff (s : State) (x : Option Reply) : (s.withReply x).takeOff = s.takeOff := rfl
@[simp] theorem State.withReply_notices (s : State) (x : Option Reply) : (s.withReply x).notices = s.notices := rfl
@[simp] theorem State.withReply_timer (s : State) (x : Option Reply) : (s.withReply x).timer = s.timer := rfl
@[simp] theorem State.withReply_reply (s : State) (x : Option Reply) : (s.withReply x).reply = x := rfl
@[simp] theorem State.withReply_downstream (s : State) (x : Option Reply) : (s.withReply x).downstream = s.downstream := rfl
@[simp] theorem State.withReply_freeIndex (s : State) (x : Option Reply) : (s.withReply x).freeIndex = s.freeIndex := rfl
@[simp] theorem State.withReply_pending (s : State) (x : Option Reply) : (s.withReply x).pending = s.pending := rfl

@[simp] theorem State.withDownstream_port (s : State) (x : Option Frame) : (s.withDownstream x).port = s.port := rfl
@[simp] theorem State.withDownstream_converter (s : State) (x : Option Frame) : (s.withDownstream x).converter = s.converter := rfl
@[simp] theorem State.withDownstream_lines (s : State) (x : Option Frame) : (s.withDownstream x).lines = s.lines := rfl
@[simp] theorem State.withDownstream_store (s : State) (x : Option Frame) : (s.withDownstream x).store = s.store := rfl
@[simp] theorem State.withDownstream_folds (s : State) (x : Option Frame) : (s.withDownstream x).folds = s.folds := rfl
@[simp] theorem State.withDownstream_seq (s : State) (x : Option Frame) : (s.withDownstream x).seq = s.seq := rfl
@[simp] theorem State.withDownstream_track (s : State) (x : Option Frame) : (s.withDownstream x).track = s.track := rfl
@[simp] theorem State.withDownstream_gov (s : State) (x : Option Frame) : (s.withDownstream x).gov = s.gov := rfl
@[simp] theorem State.withDownstream_tunnel (s : State) (x : Option Frame) : (s.withDownstream x).tunnel = s.tunnel := rfl
@[simp] theorem State.withDownstream_roll (s : State) (x : Option Frame) : (s.withDownstream x).roll = s.roll := rfl
@[simp] theorem State.withDownstream_takeOff (s : State) (x : Option Frame) : (s.withDownstream x).takeOff = s.takeOff := rfl
@[simp] theorem State.withDownstream_notices (s : State) (x : Option Frame) : (s.withDownstream x).notices = s.notices := rfl
@[simp] theorem State.withDownstream_timer (s : State) (x : Option Frame) : (s.withDownstream x).timer = s.timer := rfl
@[simp] theorem State.withDownstream_reply (s : State) (x : Option Frame) : (s.withDownstream x).reply = s.reply := rfl
@[simp] theorem State.withDownstream_downstream (s : State) (x : Option Frame) : (s.withDownstream x).downstream = x := rfl
@[simp] theorem State.withDownstream_freeIndex (s : State) (x : Option Frame) : (s.withDownstream x).freeIndex = s.freeIndex := rfl
@[simp] theorem State.withDownstream_pending (s : State) (x : Option Frame) : (s.withDownstream x).pending = s.pending := rfl

@[simp] theorem State.withFreeIndex_port (s : State) (x : Nat) : (s.withFreeIndex x).port = s.port := rfl
@[simp] theorem State.withFreeIndex_converter (s : State) (x : Nat) : (s.withFreeIndex x).converter = s.converter := rfl
@[simp] theorem State.withFreeIndex_lines (s : State) (x : Nat) : (s.withFreeIndex x).lines = s.lines := rfl
@[simp] theorem State.withFreeIndex_store (s : State) (x : Nat) : (s.withFreeIndex x).store = s.store := rfl
@[simp] theorem State.withFreeIndex_folds (s : State) (x : Nat) : (s.withFreeIndex x).folds = s.folds := rfl
@[simp] theorem State.withFreeIndex_seq (s : State) (x : Nat) : (s.withFreeIndex x).seq = s.seq := rfl
@[simp] theorem State.withFreeIndex_track (s : State) (x : Nat) : (s.withFreeIndex x).track = s.track := rfl
@[simp] theorem State.withFreeIndex_gov (s : State) (x : Nat) : (s.withFreeIndex x).gov = s.gov := rfl
@[simp] theorem State.withFreeIndex_tunnel (s : State) (x : Nat) : (s.withFreeIndex x).tunnel = s.tunnel := rfl
@[simp] theorem State.withFreeIndex_roll (s : State) (x : Nat) : (s.withFreeIndex x).roll = s.roll := rfl
@[simp] theorem State.withFreeIndex_takeOff (s : State) (x : Nat) : (s.withFreeIndex x).takeOff = s.takeOff := rfl
@[simp] theorem State.withFreeIndex_notices (s : State) (x : Nat) : (s.withFreeIndex x).notices = s.notices := rfl
@[simp] theorem State.withFreeIndex_timer (s : State) (x : Nat) : (s.withFreeIndex x).timer = s.timer := rfl
@[simp] theorem State.withFreeIndex_reply (s : State) (x : Nat) : (s.withFreeIndex x).reply = s.reply := rfl
@[simp] theorem State.withFreeIndex_downstream (s : State) (x : Nat) : (s.withFreeIndex x).downstream = s.downstream := rfl
@[simp] theorem State.withFreeIndex_freeIndex (s : State) (x : Nat) : (s.withFreeIndex x).freeIndex = x := rfl
@[simp] theorem State.withFreeIndex_pending (s : State) (x : Nat) : (s.withFreeIndex x).pending = s.pending := rfl

@[simp] theorem State.withPending_port (s : State) (x : List Instr) : (s.withPending x).port = s.port := rfl
@[simp] theorem State.withPending_converter (s : State) (x : List Instr) : (s.withPending x).converter = s.converter := rfl
@[simp] theorem State.withPending_lines (s : State) (x : List Instr) : (s.withPending x).lines = s.lines := rfl
@[simp] theorem State.withPending_store (s : State) (x : List Instr) : (s.withPending x).store = s.store := rfl
@[simp] theorem State.withPending_folds (s : State) (x : List Instr) : (s.withPending x).folds = s.folds := rfl
@[simp] theorem State.withPending_seq (s : State) (x : List Instr) : (s.withPending x).seq = s.seq := rfl
@[simp] theorem State.withPending_track (s : State) (x : List Instr) : (s.withPending x).track = s.track := rfl
@[simp] theorem State.withPending_gov (s : State) (x : List Instr) : (s.withPending x).gov = s.gov := rfl
@[simp] theorem State.withPending_tunnel (s : State) (x : List Instr) : (s.withPending x).tunnel = s.tunnel := rfl
@[simp] theorem State.withPending_roll (s : State) (x : List Instr) : (s.withPending x).roll = s.roll := rfl
@[simp] theorem State.withPending_takeOff (s : State) (x : List Instr) : (s.withPending x).takeOff = s.takeOff := rfl
@[simp] theorem State.withPending_notices (s : State) (x : List Instr) : (s.withPending x).notices = s.notices := rfl
@[simp] theorem State.withPending_timer (s : State) (x : List Instr) : (s.withPending x).timer = s.timer := rfl
@[simp] theorem State.withPending_reply (s : State) (x : List Instr) : (s.withPending x).reply = s.reply := rfl
@[simp] theorem State.withPending_downstream (s : State) (x : List Instr) : (s.withPending x).downstream = s.downstream := rfl
@[simp] theorem State.withPending_freeIndex (s : State) (x : List Instr) : (s.withPending x).freeIndex = s.freeIndex := rfl
@[simp] theorem State.withPending_pending (s : State) (x : List Instr) : (s.withPending x).pending = x := rfl

end Sys2Proof.Machine
end

