-- ==== Sys2Proof/Laws/Frames.lean ====
section
/-! SUPPORT. What each shared operation leaves as it was: one lemma for each, over the blocks it does not touch. -/

namespace Sys2Proof.Machine

@[simp] theorem setRecord_frame (s : State) (i : Fin 64) (r : TrackRecord) :
    (setRecord s i r).port = s.port ∧ (setRecord s i r).converter = s.converter
      ∧ (setRecord s i r).lines = s.lines ∧ (setRecord s i r).store = s.store
      ∧ (setRecord s i r).folds = s.folds ∧ (setRecord s i r).seq = s.seq ∧ (setRecord s i r).gov = s.gov
      ∧ (setRecord s i r).tunnel = s.tunnel ∧ (setRecord s i r).roll = s.roll
      ∧ (setRecord s i r).takeOff = s.takeOff ∧ (setRecord s i r).notices = s.notices
      ∧ (setRecord s i r).timer = s.timer ∧ (setRecord s i r).reply = s.reply
      ∧ (setRecord s i r).downstream = s.downstream ∧ (setRecord s i r).freeIndex = s.freeIndex
      ∧ (setRecord s i r).pending = s.pending := by simp [setRecord]

@[simp] theorem updateRecord_frame (s : State) (i : Fin 64) (f : TrackRecord → TrackRecord) :
    (updateRecord s i f).port = s.port ∧ (updateRecord s i f).converter = s.converter
      ∧ (updateRecord s i f).lines = s.lines ∧ (updateRecord s i f).store = s.store
      ∧ (updateRecord s i f).folds = s.folds ∧ (updateRecord s i f).seq = s.seq
      ∧ (updateRecord s i f).gov = s.gov ∧ (updateRecord s i f).tunnel = s.tunnel
      ∧ (updateRecord s i f).roll = s.roll ∧ (updateRecord s i f).takeOff = s.takeOff
      ∧ (updateRecord s i f).notices = s.notices ∧ (updateRecord s i f).timer = s.timer
      ∧ (updateRecord s i f).reply = s.reply ∧ (updateRecord s i f).downstream = s.downstream
      ∧ (updateRecord s i f).freeIndex = s.freeIndex ∧ (updateRecord s i f).pending = s.pending := by simp [updateRecord]

@[simp] theorem allocate_frame (s : State) (r : TrackRecord) :
    (allocate s r).port = s.port ∧ (allocate s r).converter = s.converter
      ∧ (allocate s r).lines = s.lines ∧ (allocate s r).store = s.store ∧ (allocate s r).folds = s.folds
      ∧ (allocate s r).gov = s.gov ∧ (allocate s r).tunnel = s.tunnel ∧ (allocate s r).roll = s.roll
      ∧ (allocate s r).takeOff = s.takeOff ∧ (allocate s r).notices = s.notices
      ∧ (allocate s r).timer = s.timer ∧ (allocate s r).reply = s.reply
      ∧ (allocate s r).downstream = s.downstream ∧ (allocate s r).freeIndex = s.freeIndex
      ∧ (allocate s r).pending = s.pending := by
  unfold allocate
  (repeat' (first | split | dsimp only)) <;> simp

@[simp] theorem resetRatio_frame (s : State) :
    (resetRatio s).port = s.port ∧ (resetRatio s).converter = s.converter
      ∧ (resetRatio s).lines = s.lines ∧ (resetRatio s).store = s.store ∧ (resetRatio s).seq = s.seq
      ∧ (resetRatio s).track = s.track ∧ (resetRatio s).gov = s.gov ∧ (resetRatio s).tunnel = s.tunnel
      ∧ (resetRatio s).roll = s.roll ∧ (resetRatio s).takeOff = s.takeOff
      ∧ (resetRatio s).notices = s.notices ∧ (resetRatio s).timer = s.timer
      ∧ (resetRatio s).reply = s.reply ∧ (resetRatio s).downstream = s.downstream
      ∧ (resetRatio s).freeIndex = s.freeIndex ∧ (resetRatio s).pending = s.pending := by
  unfold resetRatio
  (repeat' (first | split | dsimp only)) <;> simp

@[simp] theorem openGap_frame (g : GapReason) (s : State) :
    (openGap g s).port = s.port ∧ (openGap g s).converter = s.converter ∧ (openGap g s).lines = s.lines
      ∧ (openGap g s).store = s.store ∧ (openGap g s).gov = s.gov ∧ (openGap g s).tunnel = s.tunnel
      ∧ (openGap g s).roll = s.roll ∧ (openGap g s).takeOff = s.takeOff ∧ (openGap g s).notices = s.notices
      ∧ (openGap g s).timer = s.timer ∧ (openGap g s).reply = s.reply
      ∧ (openGap g s).downstream = s.downstream ∧ (openGap g s).freeIndex = s.freeIndex
      ∧ (openGap g s).pending = s.pending := by
  unfold openGap
  (repeat' (first | split | dsimp only)) <;> simp

@[simp] theorem dropContext_frame (s : State) :
    (dropContext s).port = s.port ∧ (dropContext s).converter = s.converter
      ∧ (dropContext s).lines = s.lines ∧ (dropContext s).store = s.store ∧ (dropContext s).track = s.track
      ∧ (dropContext s).gov = s.gov ∧ (dropContext s).tunnel = s.tunnel ∧ (dropContext s).roll = s.roll
      ∧ (dropContext s).takeOff = s.takeOff ∧ (dropContext s).notices = s.notices
      ∧ (dropContext s).timer = s.timer ∧ (dropContext s).reply = s.reply
      ∧ (dropContext s).downstream = s.downstream ∧ (dropContext s).freeIndex = s.freeIndex
      ∧ (dropContext s).pending = s.pending := by
  unfold dropContext
  (repeat' (first | split | dsimp only)) <;> simp

@[simp] theorem haltFolds_frame (s : State) :
    (haltFolds s).port = s.port ∧ (haltFolds s).converter = s.converter ∧ (haltFolds s).lines = s.lines
      ∧ (haltFolds s).store = s.store ∧ (haltFolds s).track = s.track ∧ (haltFolds s).gov = s.gov
      ∧ (haltFolds s).tunnel = s.tunnel ∧ (haltFolds s).roll = s.roll ∧ (haltFolds s).takeOff = s.takeOff
      ∧ (haltFolds s).notices = s.notices ∧ (haltFolds s).timer = s.timer ∧ (haltFolds s).reply = s.reply
      ∧ (haltFolds s).downstream = s.downstream ∧ (haltFolds s).freeIndex = s.freeIndex
      ∧ (haltFolds s).pending = s.pending := by
  unfold haltFolds
  (repeat' (first | split | dsimp only)) <;> simp

@[simp] theorem markSpliced_frame (s : State) (i : Fin 64) :
    (markSpliced s i).port = s.port ∧ (markSpliced s i).converter = s.converter
      ∧ (markSpliced s i).lines = s.lines ∧ (markSpliced s i).store = s.store
      ∧ (markSpliced s i).folds = s.folds ∧ (markSpliced s i).seq = s.seq ∧ (markSpliced s i).gov = s.gov
      ∧ (markSpliced s i).tunnel = s.tunnel ∧ (markSpliced s i).roll = s.roll
      ∧ (markSpliced s i).takeOff = s.takeOff ∧ (markSpliced s i).notices = s.notices
      ∧ (markSpliced s i).timer = s.timer ∧ (markSpliced s i).reply = s.reply
      ∧ (markSpliced s i).downstream = s.downstream ∧ (markSpliced s i).freeIndex = s.freeIndex
      ∧ (markSpliced s i).pending = s.pending := by
  unfold markSpliced
  (repeat' (first | split | dsimp only)) <;> simp

@[simp] theorem closeAgainstJoint_frame (s : State) (i : Fin 64) :
    (closeAgainstJoint s i).port = s.port ∧ (closeAgainstJoint s i).converter = s.converter
      ∧ (closeAgainstJoint s i).lines = s.lines ∧ (closeAgainstJoint s i).store = s.store
      ∧ (closeAgainstJoint s i).folds = s.folds ∧ (closeAgainstJoint s i).seq = s.seq
      ∧ (closeAgainstJoint s i).gov = s.gov ∧ (closeAgainstJoint s i).tunnel = s.tunnel
      ∧ (closeAgainstJoint s i).takeOff = s.takeOff ∧ (closeAgainstJoint s i).notices = s.notices
      ∧ (closeAgainstJoint s i).timer = s.timer ∧ (closeAgainstJoint s i).reply = s.reply
      ∧ (closeAgainstJoint s i).downstream = s.downstream ∧ (closeAgainstJoint s i).freeIndex = s.freeIndex
      ∧ (closeAgainstJoint s i).pending = s.pending := by
  unfold closeAgainstJoint
  (repeat' (first | split | dsimp only)) <;> simp

@[simp] theorem noOpenRecord_frame (s : State) :
    (noOpenRecord s).port = s.port ∧ (noOpenRecord s).converter = s.converter
      ∧ (noOpenRecord s).lines = s.lines ∧ (noOpenRecord s).store = s.store
      ∧ (noOpenRecord s).folds = s.folds ∧ (noOpenRecord s).track = s.track ∧ (noOpenRecord s).gov = s.gov
      ∧ (noOpenRecord s).tunnel = s.tunnel ∧ (noOpenRecord s).roll = s.roll
      ∧ (noOpenRecord s).takeOff = s.takeOff ∧ (noOpenRecord s).notices = s.notices
      ∧ (noOpenRecord s).timer = s.timer ∧ (noOpenRecord s).reply = s.reply
      ∧ (noOpenRecord s).downstream = s.downstream ∧ (noOpenRecord s).freeIndex = s.freeIndex
      ∧ (noOpenRecord s).pending = s.pending := by
  unfold noOpenRecord
  (repeat' (first | split | dsimp only)) <;> simp

@[simp] theorem closeFlat_frame (s : State) :
    (closeFlat s).port = s.port ∧ (closeFlat s).converter = s.converter ∧ (closeFlat s).lines = s.lines
      ∧ (closeFlat s).store = s.store ∧ (closeFlat s).folds = s.folds ∧ (closeFlat s).gov = s.gov
      ∧ (closeFlat s).tunnel = s.tunnel ∧ (closeFlat s).roll = s.roll ∧ (closeFlat s).takeOff = s.takeOff
      ∧ (closeFlat s).notices = s.notices ∧ (closeFlat s).timer = s.timer ∧ (closeFlat s).reply = s.reply
      ∧ (closeFlat s).downstream = s.downstream ∧ (closeFlat s).freeIndex = s.freeIndex
      ∧ (closeFlat s).pending = s.pending := by
  unfold closeFlat
  (repeat' (first | split | dsimp only)) <;> simp

@[simp] theorem closeHalted_frame (s : State) :
    (closeHalted s).port = s.port ∧ (closeHalted s).converter = s.converter
      ∧ (closeHalted s).lines = s.lines ∧ (closeHalted s).store = s.store ∧ (closeHalted s).folds = s.folds
      ∧ (closeHalted s).gov = s.gov ∧ (closeHalted s).tunnel = s.tunnel
      ∧ (closeHalted s).takeOff = s.takeOff ∧ (closeHalted s).notices = s.notices
      ∧ (closeHalted s).timer = s.timer ∧ (closeHalted s).reply = s.reply
      ∧ (closeHalted s).downstream = s.downstream ∧ (closeHalted s).freeIndex = s.freeIndex
      ∧ (closeHalted s).pending = s.pending := by
  unfold closeHalted
  (repeat' (first | split | dsimp only)) <;> simp

@[simp] theorem settleHalted_frame (s : State) :
    (settleHalted s).port = s.port ∧ (settleHalted s).converter = s.converter
      ∧ (settleHalted s).lines = s.lines ∧ (settleHalted s).store = s.store
      ∧ (settleHalted s).folds = s.folds ∧ (settleHalted s).gov = s.gov
      ∧ (settleHalted s).tunnel = s.tunnel ∧ (settleHalted s).takeOff = s.takeOff
      ∧ (settleHalted s).notices = s.notices ∧ (settleHalted s).timer = s.timer
      ∧ (settleHalted s).reply = s.reply ∧ (settleHalted s).downstream = s.downstream
      ∧ (settleHalted s).freeIndex = s.freeIndex ∧ (settleHalted s).pending = s.pending := by
  unfold settleHalted
  (repeat' (first | split | dsimp only)) <;> simp

@[simp] theorem enterHalted_frame (s : State) :
    (enterHalted s).port = s.port ∧ (enterHalted s).converter = s.converter
      ∧ (enterHalted s).lines = s.lines ∧ (enterHalted s).store = s.store
      ∧ (enterHalted s).tunnel = s.tunnel ∧ (enterHalted s).takeOff = s.takeOff
      ∧ (enterHalted s).notices = s.notices ∧ (enterHalted s).timer = s.timer
      ∧ (enterHalted s).reply = s.reply ∧ (enterHalted s).downstream = s.downstream
      ∧ (enterHalted s).freeIndex = s.freeIndex ∧ (enterHalted s).pending = s.pending := by
  unfold enterHalted
  (repeat' (first | split | dsimp only)) <;> simp

@[simp] theorem haltDemand_frame (s : State) :
    (haltDemand s).port = s.port ∧ (haltDemand s).converter = s.converter
      ∧ (haltDemand s).lines = s.lines ∧ (haltDemand s).store = s.store ∧ (haltDemand s).tunnel = s.tunnel
      ∧ (haltDemand s).takeOff = s.takeOff ∧ (haltDemand s).notices = s.notices
      ∧ (haltDemand s).timer = s.timer ∧ (haltDemand s).reply = s.reply
      ∧ (haltDemand s).downstream = s.downstream ∧ (haltDemand s).freeIndex = s.freeIndex
      ∧ (haltDemand s).pending = s.pending := by
  unfold haltDemand
  (repeat' (first | split | dsimp only)) <;> simp

@[simp] theorem raiseNotice_frame (n : Notice) (s : State) :
    (raiseNotice n s).port = s.port ∧ (raiseNotice n s).converter = s.converter
      ∧ (raiseNotice n s).lines = s.lines ∧ (raiseNotice n s).store = s.store
      ∧ (raiseNotice n s).tunnel = s.tunnel ∧ (raiseNotice n s).takeOff = s.takeOff
      ∧ (raiseNotice n s).timer = s.timer ∧ (raiseNotice n s).reply = s.reply
      ∧ (raiseNotice n s).downstream = s.downstream ∧ (raiseNotice n s).freeIndex = s.freeIndex
      ∧ (raiseNotice n s).pending = s.pending := by
  unfold raiseNotice
  (repeat' (first | split | dsimp only)) <;> simp

@[simp] theorem raiseAll_frame (ns : List Notice) (s : State) :
    (raiseAll ns s).port = s.port ∧ (raiseAll ns s).converter = s.converter
      ∧ (raiseAll ns s).lines = s.lines ∧ (raiseAll ns s).store = s.store
      ∧ (raiseAll ns s).tunnel = s.tunnel ∧ (raiseAll ns s).takeOff = s.takeOff
      ∧ (raiseAll ns s).timer = s.timer ∧ (raiseAll ns s).reply = s.reply
      ∧ (raiseAll ns s).downstream = s.downstream ∧ (raiseAll ns s).freeIndex = s.freeIndex
      ∧ (raiseAll ns s).pending = s.pending := by
  induction ns generalizing s with
  | nil => simp [raiseAll]
  | cons a l ih =>
    unfold raiseAll
    (repeat' split) <;> simp [*]

@[simp] theorem raiseWhen_frame (c : Bool) (n : Notice) (s : State) :
    (raiseWhen c n s).port = s.port ∧ (raiseWhen c n s).converter = s.converter
      ∧ (raiseWhen c n s).lines = s.lines ∧ (raiseWhen c n s).store = s.store
      ∧ (raiseWhen c n s).tunnel = s.tunnel ∧ (raiseWhen c n s).takeOff = s.takeOff
      ∧ (raiseWhen c n s).timer = s.timer ∧ (raiseWhen c n s).reply = s.reply
      ∧ (raiseWhen c n s).downstream = s.downstream ∧ (raiseWhen c n s).freeIndex = s.freeIndex
      ∧ (raiseWhen c n s).pending = s.pending := by
  unfold raiseWhen
  (repeat' (first | split | dsimp only)) <;> simp

@[simp] theorem examineGood_frame (f : Frame) (s : State) :
    (examineGood f s).converter = s.converter ∧ (examineGood f s).lines = s.lines
      ∧ (examineGood f s).store = s.store ∧ (examineGood f s).tunnel = s.tunnel
      ∧ (examineGood f s).takeOff = s.takeOff ∧ (examineGood f s).timer = s.timer
      ∧ (examineGood f s).reply = s.reply ∧ (examineGood f s).downstream = s.downstream
      ∧ (examineGood f s).freeIndex = s.freeIndex ∧ (examineGood f s).pending = s.pending := by
  unfold examineGood
  (repeat' (first | split | dsimp only)) <;> simp

@[simp] theorem enterListen_frame (s : State) :
    (enterListen s).converter = s.converter ∧ (enterListen s).lines = s.lines
      ∧ (enterListen s).store = s.store ∧ (enterListen s).folds = s.folds ∧ (enterListen s).seq = s.seq
      ∧ (enterListen s).track = s.track ∧ (enterListen s).gov = s.gov ∧ (enterListen s).tunnel = s.tunnel
      ∧ (enterListen s).roll = s.roll ∧ (enterListen s).takeOff = s.takeOff
      ∧ (enterListen s).notices = s.notices ∧ (enterListen s).timer = s.timer
      ∧ (enterListen s).reply = s.reply ∧ (enterListen s).downstream = s.downstream
      ∧ (enterListen s).freeIndex = s.freeIndex ∧ (enterListen s).pending = s.pending := by
  unfold enterListen
  (repeat' (first | split | dsimp only)) <;> simp

@[simp] theorem enterFault_frame (s : State) :
    (enterFault s).converter = s.converter ∧ (enterFault s).lines = s.lines
      ∧ (enterFault s).store = s.store ∧ (enterFault s).tunnel = s.tunnel
      ∧ (enterFault s).takeOff = s.takeOff ∧ (enterFault s).timer = s.timer
      ∧ (enterFault s).reply = s.reply ∧ (enterFault s).downstream = s.downstream
      ∧ (enterFault s).freeIndex = s.freeIndex ∧ (enterFault s).pending = s.pending := by
  unfold enterFault
  (repeat' (first | split | dsimp only)) <;> simp

@[simp] theorem expireSilence_frame (s : State) :
    (expireSilence s).converter = s.converter ∧ (expireSilence s).lines = s.lines
      ∧ (expireSilence s).store = s.store ∧ (expireSilence s).tunnel = s.tunnel
      ∧ (expireSilence s).takeOff = s.takeOff ∧ (expireSilence s).timer = s.timer
      ∧ (expireSilence s).reply = s.reply ∧ (expireSilence s).downstream = s.downstream
      ∧ (expireSilence s).freeIndex = s.freeIndex ∧ (expireSilence s).pending = s.pending := by
  unfold expireSilence
  (repeat' (first | split | dsimp only)) <;> simp

@[simp] theorem enterSyncing_frame (s : State) :
    (enterSyncing s).converter = s.converter ∧ (enterSyncing s).lines = s.lines
      ∧ (enterSyncing s).store = s.store ∧ (enterSyncing s).folds = s.folds ∧ (enterSyncing s).seq = s.seq
      ∧ (enterSyncing s).track = s.track ∧ (enterSyncing s).gov = s.gov
      ∧ (enterSyncing s).tunnel = s.tunnel ∧ (enterSyncing s).roll = s.roll
      ∧ (enterSyncing s).takeOff = s.takeOff ∧ (enterSyncing s).notices = s.notices
      ∧ (enterSyncing s).timer = s.timer ∧ (enterSyncing s).reply = s.reply
      ∧ (enterSyncing s).downstream = s.downstream ∧ (enterSyncing s).freeIndex = s.freeIndex
      ∧ (enterSyncing s).pending = s.pending := by
  unfold enterSyncing
  (repeat' (first | split | dsimp only)) <;> simp

@[simp] theorem countBad_frame (c : ErrorCode) (s : State) :
    (countBad c s).converter = s.converter ∧ (countBad c s).lines = s.lines
      ∧ (countBad c s).store = s.store ∧ (countBad c s).tunnel = s.tunnel
      ∧ (countBad c s).takeOff = s.takeOff ∧ (countBad c s).timer = s.timer
      ∧ (countBad c s).reply = s.reply ∧ (countBad c s).downstream = s.downstream
      ∧ (countBad c s).freeIndex = s.freeIndex ∧ (countBad c s).pending = s.pending := by
  unfold countBad
  (repeat' (first | split | dsimp only)) <;> simp

@[simp] theorem countBadRun_frame (s : State) :
    (countBadRun s).converter = s.converter ∧ (countBadRun s).lines = s.lines
      ∧ (countBadRun s).store = s.store ∧ (countBadRun s).tunnel = s.tunnel
      ∧ (countBadRun s).takeOff = s.takeOff ∧ (countBadRun s).timer = s.timer
      ∧ (countBadRun s).reply = s.reply ∧ (countBadRun s).downstream = s.downstream
      ∧ (countBadRun s).freeIndex = s.freeIndex ∧ (countBadRun s).pending = s.pending := by
  unfold countBadRun
  (repeat' (first | split | dsimp only)) <;> simp

@[simp] theorem countGood_frame (g : Option Nat) (s : State) :
    (countGood g s).converter = s.converter ∧ (countGood g s).lines = s.lines
      ∧ (countGood g s).store = s.store ∧ (countGood g s).folds = s.folds ∧ (countGood g s).seq = s.seq
      ∧ (countGood g s).track = s.track ∧ (countGood g s).gov = s.gov ∧ (countGood g s).tunnel = s.tunnel
      ∧ (countGood g s).roll = s.roll ∧ (countGood g s).takeOff = s.takeOff
      ∧ (countGood g s).notices = s.notices ∧ (countGood g s).timer = s.timer
      ∧ (countGood g s).reply = s.reply ∧ (countGood g s).downstream = s.downstream
      ∧ (countGood g s).freeIndex = s.freeIndex ∧ (countGood g s).pending = s.pending := by
  unfold countGood
  (repeat' (first | split | dsimp only)) <;> simp

@[simp] theorem countArrival_frame (s : State) :
    (countArrival s).converter = s.converter ∧ (countArrival s).lines = s.lines
      ∧ (countArrival s).store = s.store ∧ (countArrival s).folds = s.folds ∧ (countArrival s).seq = s.seq
      ∧ (countArrival s).track = s.track ∧ (countArrival s).gov = s.gov
      ∧ (countArrival s).tunnel = s.tunnel ∧ (countArrival s).roll = s.roll
      ∧ (countArrival s).takeOff = s.takeOff ∧ (countArrival s).notices = s.notices
      ∧ (countArrival s).timer = s.timer ∧ (countArrival s).reply = s.reply
      ∧ (countArrival s).downstream = s.downstream ∧ (countArrival s).freeIndex = s.freeIndex
      ∧ (countArrival s).pending = s.pending := by
  unfold countArrival
  (repeat' (first | split | dsimp only)) <;> simp

@[simp] theorem withQuantities_frame (f : Fin 16 → Quantity × List Notice) (s : State) :
    (withQuantities f s).port = s.port ∧ (withQuantities f s).lines = s.lines
      ∧ (withQuantities f s).store = s.store ∧ (withQuantities f s).tunnel = s.tunnel
      ∧ (withQuantities f s).takeOff = s.takeOff ∧ (withQuantities f s).timer = s.timer
      ∧ (withQuantities f s).reply = s.reply ∧ (withQuantities f s).downstream = s.downstream
      ∧ (withQuantities f s).freeIndex = s.freeIndex ∧ (withQuantities f s).pending = s.pending := by
  unfold withQuantities
  (repeat' (first | split | dsimp only)) <;> simp

@[simp] theorem convertArrival_frame (b : List Byte) (s : State) :
    (convertArrival b s).port = s.port ∧ (convertArrival b s).lines = s.lines
      ∧ (convertArrival b s).store = s.store ∧ (convertArrival b s).tunnel = s.tunnel
      ∧ (convertArrival b s).takeOff = s.takeOff ∧ (convertArrival b s).timer = s.timer
      ∧ (convertArrival b s).reply = s.reply ∧ (convertArrival b s).downstream = s.downstream
      ∧ (convertArrival b s).freeIndex = s.freeIndex ∧ (convertArrival b s).pending = s.pending := by
  unfold convertArrival
  (repeat' (first | split | dsimp only)) <;> simp

@[simp] theorem ageAll_frame (s : State) :
    (ageAll s).port = s.port ∧ (ageAll s).lines = s.lines ∧ (ageAll s).store = s.store
      ∧ (ageAll s).tunnel = s.tunnel ∧ (ageAll s).takeOff = s.takeOff ∧ (ageAll s).timer = s.timer
      ∧ (ageAll s).reply = s.reply ∧ (ageAll s).downstream = s.downstream
      ∧ (ageAll s).freeIndex = s.freeIndex ∧ (ageAll s).pending = s.pending := by
  unfold ageAll
  (repeat' (first | split | dsimp only)) <;> simp

@[simp] theorem latchLines_frame (s : State) :
    (latchLines s).port = s.port ∧ (latchLines s).converter = s.converter
      ∧ (latchLines s).store = s.store ∧ (latchLines s).folds = s.folds ∧ (latchLines s).seq = s.seq
      ∧ (latchLines s).track = s.track ∧ (latchLines s).gov = s.gov ∧ (latchLines s).tunnel = s.tunnel
      ∧ (latchLines s).roll = s.roll ∧ (latchLines s).takeOff = s.takeOff
      ∧ (latchLines s).notices = s.notices ∧ (latchLines s).timer = s.timer
      ∧ (latchLines s).reply = s.reply ∧ (latchLines s).downstream = s.downstream
      ∧ (latchLines s).freeIndex = s.freeIndex ∧ (latchLines s).pending = s.pending := by
  unfold latchLines
  (repeat' (first | split | dsimp only)) <;> simp

@[simp] theorem doorTest_frame (s : State) :
    (doorTest s).port = s.port ∧ (doorTest s).converter = s.converter ∧ (doorTest s).store = s.store
      ∧ (doorTest s).tunnel = s.tunnel ∧ (doorTest s).takeOff = s.takeOff ∧ (doorTest s).timer = s.timer
      ∧ (doorTest s).reply = s.reply ∧ (doorTest s).downstream = s.downstream
      ∧ (doorTest s).freeIndex = s.freeIndex ∧ (doorTest s).pending = s.pending := by
  unfold doorTest
  (repeat' (first | split | dsimp only)) <;> simp

@[simp] theorem issueOne_frame (s : State) :
    (issueOne s).port = s.port ∧ (issueOne s).converter = s.converter ∧ (issueOne s).lines = s.lines
      ∧ (issueOne s).store = s.store ∧ (issueOne s).track = s.track ∧ (issueOne s).gov = s.gov
      ∧ (issueOne s).tunnel = s.tunnel ∧ (issueOne s).roll = s.roll ∧ (issueOne s).takeOff = s.takeOff
      ∧ (issueOne s).notices = s.notices ∧ (issueOne s).timer = s.timer ∧ (issueOne s).reply = s.reply
      ∧ (issueOne s).downstream = s.downstream ∧ (issueOne s).freeIndex = s.freeIndex
      ∧ (issueOne s).pending = s.pending := by
  unfold issueOne
  (repeat' (first | split | dsimp only)) <;> simp

@[simp] theorem issueRequests_frame (s : State) :
    (issueRequests s).port = s.port ∧ (issueRequests s).converter = s.converter
      ∧ (issueRequests s).lines = s.lines ∧ (issueRequests s).store = s.store
      ∧ (issueRequests s).track = s.track ∧ (issueRequests s).gov = s.gov
      ∧ (issueRequests s).tunnel = s.tunnel ∧ (issueRequests s).roll = s.roll
      ∧ (issueRequests s).takeOff = s.takeOff ∧ (issueRequests s).notices = s.notices
      ∧ (issueRequests s).timer = s.timer ∧ (issueRequests s).reply = s.reply
      ∧ (issueRequests s).downstream = s.downstream ∧ (issueRequests s).freeIndex = s.freeIndex
      ∧ (issueRequests s).pending = s.pending := by
  unfold issueRequests
  (repeat' (first | split | dsimp only)) <;> simp

@[simp] theorem completeRequest_frame (s : State) :
    (completeRequest s).port = s.port ∧ (completeRequest s).converter = s.converter
      ∧ (completeRequest s).lines = s.lines ∧ (completeRequest s).store = s.store
      ∧ (completeRequest s).track = s.track ∧ (completeRequest s).gov = s.gov
      ∧ (completeRequest s).tunnel = s.tunnel ∧ (completeRequest s).roll = s.roll
      ∧ (completeRequest s).takeOff = s.takeOff ∧ (completeRequest s).notices = s.notices
      ∧ (completeRequest s).timer = s.timer ∧ (completeRequest s).reply = s.reply
      ∧ (completeRequest s).downstream = s.downstream ∧ (completeRequest s).freeIndex = s.freeIndex
      ∧ (completeRequest s).pending = s.pending := by
  unfold completeRequest
  (repeat' (first | split | dsimp only)) <;> simp

@[simp] theorem passEntry_frame (e : StrokeEntry) (rest : List StrokeEntry) (s : State) :
    (passEntry e rest s).port = s.port ∧ (passEntry e rest s).converter = s.converter
      ∧ (passEntry e rest s).lines = s.lines ∧ (passEntry e rest s).store = s.store
      ∧ (passEntry e rest s).tunnel = s.tunnel ∧ (passEntry e rest s).takeOff = s.takeOff
      ∧ (passEntry e rest s).timer = s.timer ∧ (passEntry e rest s).reply = s.reply
      ∧ (passEntry e rest s).downstream = s.downstream ∧ (passEntry e rest s).freeIndex = s.freeIndex
      ∧ (passEntry e rest s).pending = s.pending := by
  unfold passEntry
  (repeat' (first | split | dsimp only)) <;> simp

@[simp] theorem passing_frame (n : Nat) (s : State) :
    (passing n s).port = s.port ∧ (passing n s).converter = s.converter ∧ (passing n s).lines = s.lines
      ∧ (passing n s).store = s.store ∧ (passing n s).tunnel = s.tunnel ∧ (passing n s).takeOff = s.takeOff
      ∧ (passing n s).timer = s.timer ∧ (passing n s).reply = s.reply
      ∧ (passing n s).downstream = s.downstream ∧ (passing n s).freeIndex = s.freeIndex
      ∧ (passing n s).pending = s.pending := by
  induction n generalizing s with
  | zero => simp [passing]
  | succ n ih =>
    unfold passing
    (repeat' split) <;> simp [*]

@[simp] theorem emission_frame (s : State) :
    (emission s).port = s.port ∧ (emission s).converter = s.converter ∧ (emission s).lines = s.lines
      ∧ (emission s).store = s.store ∧ (emission s).seq = s.seq ∧ (emission s).track = s.track
      ∧ (emission s).gov = s.gov ∧ (emission s).tunnel = s.tunnel ∧ (emission s).roll = s.roll
      ∧ (emission s).takeOff = s.takeOff ∧ (emission s).notices = s.notices ∧ (emission s).timer = s.timer
      ∧ (emission s).reply = s.reply ∧ (emission s).downstream = s.downstream
      ∧ (emission s).freeIndex = s.freeIndex ∧ (emission s).pending = s.pending := by
  unfold emission
  (repeat' (first | split | dsimp only)) <;> simp

@[simp] theorem foldWork_frame (s : State) :
    (foldWork s).port = s.port ∧ (foldWork s).converter = s.converter ∧ (foldWork s).lines = s.lines
      ∧ (foldWork s).store = s.store ∧ (foldWork s).tunnel = s.tunnel ∧ (foldWork s).takeOff = s.takeOff
      ∧ (foldWork s).timer = s.timer ∧ (foldWork s).reply = s.reply
      ∧ (foldWork s).downstream = s.downstream ∧ (foldWork s).freeIndex = s.freeIndex
      ∧ (foldWork s).pending = s.pending := by
  unfold foldWork
  (repeat' (first | split | dsimp only)) <;> simp

@[simp] theorem takeRun_frame (s : State) :
    (takeRun s).1.port = s.port ∧ (takeRun s).1.converter = s.converter ∧ (takeRun s).1.lines = s.lines
      ∧ (takeRun s).1.store = s.store ∧ (takeRun s).1.folds = s.folds ∧ (takeRun s).1.track = s.track
      ∧ (takeRun s).1.gov = s.gov ∧ (takeRun s).1.tunnel = s.tunnel ∧ (takeRun s).1.roll = s.roll
      ∧ (takeRun s).1.takeOff = s.takeOff ∧ (takeRun s).1.notices = s.notices
      ∧ (takeRun s).1.timer = s.timer ∧ (takeRun s).1.reply = s.reply
      ∧ (takeRun s).1.downstream = s.downstream ∧ (takeRun s).1.freeIndex = s.freeIndex
      ∧ (takeRun s).1.pending = s.pending := by
  unfold takeRun
  (repeat' (first | split | dsimp only)) <;> simp

@[simp] theorem panelDecision_frame (s : State) :
    (panelDecision s).1.port = s.port ∧ (panelDecision s).1.converter = s.converter
      ∧ (panelDecision s).1.lines = s.lines ∧ (panelDecision s).1.store = s.store
      ∧ (panelDecision s).1.folds = s.folds ∧ (panelDecision s).1.track = s.track
      ∧ (panelDecision s).1.gov = s.gov ∧ (panelDecision s).1.tunnel = s.tunnel
      ∧ (panelDecision s).1.roll = s.roll ∧ (panelDecision s).1.takeOff = s.takeOff
      ∧ (panelDecision s).1.notices = s.notices ∧ (panelDecision s).1.timer = s.timer
      ∧ (panelDecision s).1.reply = s.reply ∧ (panelDecision s).1.downstream = s.downstream
      ∧ (panelDecision s).1.freeIndex = s.freeIndex ∧ (panelDecision s).1.pending = s.pending := by
  unfold panelDecision
  (repeat' (first | split | dsimp only)) <;> simp

@[simp] theorem openPanel_frame (s : State) :
    (openPanel s).1.port = s.port ∧ (openPanel s).1.converter = s.converter
      ∧ (openPanel s).1.lines = s.lines ∧ (openPanel s).1.store = s.store ∧ (openPanel s).1.gov = s.gov
      ∧ (openPanel s).1.tunnel = s.tunnel ∧ (openPanel s).1.roll = s.roll
      ∧ (openPanel s).1.takeOff = s.takeOff ∧ (openPanel s).1.notices = s.notices
      ∧ (openPanel s).1.timer = s.timer ∧ (openPanel s).1.reply = s.reply
      ∧ (openPanel s).1.downstream = s.downstream ∧ (openPanel s).1.freeIndex = s.freeIndex
      ∧ (openPanel s).1.pending = s.pending := by
  unfold openPanel
  (repeat' (first | split | dsimp only)) <;> simp

@[simp] theorem openSplice_frame (ts : Timestamp) (s : State) :
    (openSplice ts s).port = s.port ∧ (openSplice ts s).converter = s.converter
      ∧ (openSplice ts s).lines = s.lines ∧ (openSplice ts s).store = s.store
      ∧ (openSplice ts s).gov = s.gov ∧ (openSplice ts s).tunnel = s.tunnel
      ∧ (openSplice ts s).takeOff = s.takeOff ∧ (openSplice ts s).notices = s.notices
      ∧ (openSplice ts s).timer = s.timer ∧ (openSplice ts s).reply = s.reply
      ∧ (openSplice ts s).downstream = s.downstream ∧ (openSplice ts s).freeIndex = s.freeIndex
      ∧ (openSplice ts s).pending = s.pending := by
  unfold openSplice
  (repeat' (first | split | dsimp only)) <;> simp

@[simp] theorem openOutcome_frame (ts : Timestamp) (o : DecisionOutcome) (s : State) :
    (openOutcome ts o s).1.port = s.port ∧ (openOutcome ts o s).1.converter = s.converter
      ∧ (openOutcome ts o s).1.lines = s.lines ∧ (openOutcome ts o s).1.store = s.store
      ∧ (openOutcome ts o s).1.gov = s.gov ∧ (openOutcome ts o s).1.tunnel = s.tunnel
      ∧ (openOutcome ts o s).1.takeOff = s.takeOff ∧ (openOutcome ts o s).1.notices = s.notices
      ∧ (openOutcome ts o s).1.timer = s.timer ∧ (openOutcome ts o s).1.reply = s.reply
      ∧ (openOutcome ts o s).1.downstream = s.downstream ∧ (openOutcome ts o s).1.freeIndex = s.freeIndex
      ∧ (openOutcome ts o s).1.pending = s.pending := by
  unfold openOutcome
  (repeat' (first | split | dsimp only)) <;> simp

@[simp] theorem setGapReason_frame (g : GapReason) (s : State) :
    (setGapReason g s).port = s.port ∧ (setGapReason g s).converter = s.converter
      ∧ (setGapReason g s).lines = s.lines ∧ (setGapReason g s).store = s.store
      ∧ (setGapReason g s).folds = s.folds ∧ (setGapReason g s).seq = s.seq
      ∧ (setGapReason g s).gov = s.gov ∧ (setGapReason g s).tunnel = s.tunnel
      ∧ (setGapReason g s).roll = s.roll ∧ (setGapReason g s).takeOff = s.takeOff
      ∧ (setGapReason g s).notices = s.notices ∧ (setGapReason g s).timer = s.timer
      ∧ (setGapReason g s).reply = s.reply ∧ (setGapReason g s).downstream = s.downstream
      ∧ (setGapReason g s).freeIndex = s.freeIndex ∧ (setGapReason g s).pending = s.pending := by
  unfold setGapReason
  (repeat' (first | split | dsimp only)) <;> simp

@[simp] theorem applyToGap_frame (ts : Timestamp) (o : DecisionOutcome) (s : State) :
    (applyToGap ts o s).1.port = s.port ∧ (applyToGap ts o s).1.converter = s.converter
      ∧ (applyToGap ts o s).1.lines = s.lines ∧ (applyToGap ts o s).1.store = s.store
      ∧ (applyToGap ts o s).1.gov = s.gov ∧ (applyToGap ts o s).1.tunnel = s.tunnel
      ∧ (applyToGap ts o s).1.takeOff = s.takeOff ∧ (applyToGap ts o s).1.notices = s.notices
      ∧ (applyToGap ts o s).1.timer = s.timer ∧ (applyToGap ts o s).1.reply = s.reply
      ∧ (applyToGap ts o s).1.downstream = s.downstream ∧ (applyToGap ts o s).1.freeIndex = s.freeIndex
      ∧ (applyToGap ts o s).1.pending = s.pending := by
  unfold applyToGap
  (repeat' (first | split | dsimp only)) <;> simp

@[simp] theorem decideAfterClosing_frame (ts : Timestamp) (s : State) :
    (decideAfterClosing ts s).1.port = s.port ∧ (decideAfterClosing ts s).1.converter = s.converter
      ∧ (decideAfterClosing ts s).1.lines = s.lines ∧ (decideAfterClosing ts s).1.store = s.store
      ∧ (decideAfterClosing ts s).1.gov = s.gov ∧ (decideAfterClosing ts s).1.tunnel = s.tunnel
      ∧ (decideAfterClosing ts s).1.takeOff = s.takeOff ∧ (decideAfterClosing ts s).1.notices = s.notices
      ∧ (decideAfterClosing ts s).1.timer = s.timer ∧ (decideAfterClosing ts s).1.reply = s.reply
      ∧ (decideAfterClosing ts s).1.downstream = s.downstream
      ∧ (decideAfterClosing ts s).1.freeIndex = s.freeIndex
      ∧ (decideAfterClosing ts s).1.pending = s.pending := by
  unfold decideAfterClosing
  (repeat' (first | split | dsimp only)) <;> simp

@[simp] theorem raiseWhileRunning_frame (ns : List Notice) (s : State) :
    (raiseWhileRunning ns s).port = s.port ∧ (raiseWhileRunning ns s).converter = s.converter
      ∧ (raiseWhileRunning ns s).lines = s.lines ∧ (raiseWhileRunning ns s).store = s.store
      ∧ (raiseWhileRunning ns s).tunnel = s.tunnel ∧ (raiseWhileRunning ns s).takeOff = s.takeOff
      ∧ (raiseWhileRunning ns s).timer = s.timer ∧ (raiseWhileRunning ns s).reply = s.reply
      ∧ (raiseWhileRunning ns s).downstream = s.downstream
      ∧ (raiseWhileRunning ns s).freeIndex = s.freeIndex ∧ (raiseWhileRunning ns s).pending = s.pending := by
  induction ns generalizing s with
  | nil => simp [raiseWhileRunning]
  | cons a l ih =>
    unfold raiseWhileRunning
    (repeat' split) <;> simp [*]

@[simp] theorem settleGap_frame (ts : Timestamp) (o : DecisionOutcome) (s : State) :
    (settleGap ts o s).port = s.port ∧ (settleGap ts o s).converter = s.converter
      ∧ (settleGap ts o s).lines = s.lines ∧ (settleGap ts o s).store = s.store
      ∧ (settleGap ts o s).tunnel = s.tunnel ∧ (settleGap ts o s).takeOff = s.takeOff
      ∧ (settleGap ts o s).timer = s.timer ∧ (settleGap ts o s).reply = s.reply
      ∧ (settleGap ts o s).downstream = s.downstream ∧ (settleGap ts o s).freeIndex = s.freeIndex
      ∧ (settleGap ts o s).pending = s.pending := by
  unfold settleGap
  (repeat' (first | split | dsimp only)) <;> simp

@[simp] theorem decideForGap_frame (ts : Timestamp) (s : State) :
    (decideForGap ts s).port = s.port ∧ (decideForGap ts s).converter = s.converter
      ∧ (decideForGap ts s).lines = s.lines ∧ (decideForGap ts s).store = s.store
      ∧ (decideForGap ts s).tunnel = s.tunnel ∧ (decideForGap ts s).takeOff = s.takeOff
      ∧ (decideForGap ts s).timer = s.timer ∧ (decideForGap ts s).reply = s.reply
      ∧ (decideForGap ts s).downstream = s.downstream ∧ (decideForGap ts s).freeIndex = s.freeIndex
      ∧ (decideForGap ts s).pending = s.pending := by
  unfold decideForGap
  (repeat' (first | split | dsimp only)) <;> simp

@[simp] theorem closePanel_frame (i : Fin 64) (s : State) :
    (closePanel i s).1.port = s.port ∧ (closePanel i s).1.converter = s.converter
      ∧ (closePanel i s).1.lines = s.lines ∧ (closePanel i s).1.store = s.store
      ∧ (closePanel i s).1.tunnel = s.tunnel ∧ (closePanel i s).1.takeOff = s.takeOff
      ∧ (closePanel i s).1.notices = s.notices ∧ (closePanel i s).1.timer = s.timer
      ∧ (closePanel i s).1.reply = s.reply ∧ (closePanel i s).1.downstream = s.downstream
      ∧ (closePanel i s).1.freeIndex = s.freeIndex ∧ (closePanel i s).1.pending = s.pending := by
  unfold closePanel
  (repeat' (first | split | dsimp only)) <;> simp

@[simp] theorem sequencerOn_frame (ts : Timestamp) (i : Fin 64) (s : State) :
    (sequencerOn ts i s).1.port = s.port ∧ (sequencerOn ts i s).1.converter = s.converter
      ∧ (sequencerOn ts i s).1.lines = s.lines ∧ (sequencerOn ts i s).1.store = s.store
      ∧ (sequencerOn ts i s).1.tunnel = s.tunnel ∧ (sequencerOn ts i s).1.takeOff = s.takeOff
      ∧ (sequencerOn ts i s).1.timer = s.timer ∧ (sequencerOn ts i s).1.reply = s.reply
      ∧ (sequencerOn ts i s).1.downstream = s.downstream ∧ (sequencerOn ts i s).1.freeIndex = s.freeIndex
      ∧ (sequencerOn ts i s).1.pending = s.pending := by
  unfold sequencerOn
  (repeat' (first | split | dsimp only)) <;> simp

@[simp] theorem sequencerOutcome_frame (ts : Timestamp) (s : State) :
    (sequencerOutcome ts s).1.port = s.port ∧ (sequencerOutcome ts s).1.converter = s.converter
      ∧ (sequencerOutcome ts s).1.lines = s.lines ∧ (sequencerOutcome ts s).1.store = s.store
      ∧ (sequencerOutcome ts s).1.tunnel = s.tunnel ∧ (sequencerOutcome ts s).1.takeOff = s.takeOff
      ∧ (sequencerOutcome ts s).1.timer = s.timer ∧ (sequencerOutcome ts s).1.reply = s.reply
      ∧ (sequencerOutcome ts s).1.downstream = s.downstream ∧ (sequencerOutcome ts s).1.freeIndex = s.freeIndex
      ∧ (sequencerOutcome ts s).1.pending = s.pending := by
  unfold sequencerOutcome
  (repeat' (first | split | dsimp only)) <;> simp

@[simp] theorem sequencerWork_frame (ts : Timestamp) (s : State) :
    (sequencerWork ts s).port = s.port ∧ (sequencerWork ts s).converter = s.converter
      ∧ (sequencerWork ts s).lines = s.lines ∧ (sequencerWork ts s).store = s.store
      ∧ (sequencerWork ts s).tunnel = s.tunnel ∧ (sequencerWork ts s).takeOff = s.takeOff
      ∧ (sequencerWork ts s).timer = s.timer ∧ (sequencerWork ts s).reply = s.reply
      ∧ (sequencerWork ts s).downstream = s.downstream ∧ (sequencerWork ts s).freeIndex = s.freeIndex
      ∧ (sequencerWork ts s).pending = s.pending := by
  unfold sequencerWork
  (repeat' (first | split | dsimp only)) <;> simp

@[simp] theorem enterTunnel_frame (i : Fin 64) (rest : List (Fin 64)) (s : State) :
    (enterTunnel i rest s).port = s.port ∧ (enterTunnel i rest s).converter = s.converter
      ∧ (enterTunnel i rest s).lines = s.lines ∧ (enterTunnel i rest s).store = s.store
      ∧ (enterTunnel i rest s).folds = s.folds ∧ (enterTunnel i rest s).seq = s.seq
      ∧ (enterTunnel i rest s).gov = s.gov ∧ (enterTunnel i rest s).roll = s.roll
      ∧ (enterTunnel i rest s).takeOff = s.takeOff ∧ (enterTunnel i rest s).notices = s.notices
      ∧ (enterTunnel i rest s).timer = s.timer ∧ (enterTunnel i rest s).reply = s.reply
      ∧ (enterTunnel i rest s).downstream = s.downstream ∧ (enterTunnel i rest s).freeIndex = s.freeIndex
      ∧ (enterTunnel i rest s).pending = s.pending := by
  unfold enterTunnel
  (repeat' (first | split | dsimp only)) <;> simp

@[simp] theorem entryMoves_frame (n : Nat) (s : State) :
    (entryMoves n s).port = s.port ∧ (entryMoves n s).converter = s.converter
      ∧ (entryMoves n s).lines = s.lines ∧ (entryMoves n s).store = s.store
      ∧ (entryMoves n s).folds = s.folds ∧ (entryMoves n s).seq = s.seq ∧ (entryMoves n s).gov = s.gov
      ∧ (entryMoves n s).roll = s.roll ∧ (entryMoves n s).takeOff = s.takeOff
      ∧ (entryMoves n s).notices = s.notices ∧ (entryMoves n s).timer = s.timer
      ∧ (entryMoves n s).reply = s.reply ∧ (entryMoves n s).downstream = s.downstream
      ∧ (entryMoves n s).freeIndex = s.freeIndex ∧ (entryMoves n s).pending = s.pending := by
  induction n generalizing s with
  | zero => simp [entryMoves]
  | succ n ih =>
    unfold entryMoves
    (repeat' split) <;> simp [*]

@[simp] theorem entryWork_frame (s : State) :
    (entryWork s).port = s.port ∧ (entryWork s).converter = s.converter ∧ (entryWork s).lines = s.lines
      ∧ (entryWork s).store = s.store ∧ (entryWork s).folds = s.folds ∧ (entryWork s).seq = s.seq
      ∧ (entryWork s).gov = s.gov ∧ (entryWork s).roll = s.roll ∧ (entryWork s).takeOff = s.takeOff
      ∧ (entryWork s).notices = s.notices ∧ (entryWork s).timer = s.timer ∧ (entryWork s).reply = s.reply
      ∧ (entryWork s).downstream = s.downstream ∧ (entryWork s).freeIndex = s.freeIndex
      ∧ (entryWork s).pending = s.pending := by
  unfold entryWork
  (repeat' (first | split | dsimp only)) <;> simp

@[simp] theorem setZone_frame (s : State) (z : Fin 6) (x : Zone) :
    (setZone s z x).port = s.port ∧ (setZone s z x).converter = s.converter
      ∧ (setZone s z x).lines = s.lines ∧ (setZone s z x).store = s.store ∧ (setZone s z x).folds = s.folds
      ∧ (setZone s z x).seq = s.seq ∧ (setZone s z x).track = s.track ∧ (setZone s z x).gov = s.gov
      ∧ (setZone s z x).roll = s.roll ∧ (setZone s z x).takeOff = s.takeOff
      ∧ (setZone s z x).notices = s.notices ∧ (setZone s z x).timer = s.timer
      ∧ (setZone s z x).reply = s.reply ∧ (setZone s z x).downstream = s.downstream
      ∧ (setZone s z x).freeIndex = s.freeIndex ∧ (setZone s z x).pending = s.pending := by
  unfold setZone
  (repeat' (first | split | dsimp only)) <;> simp

@[simp] theorem updateZones_frame (zs : List (Fin 6)) (s : State) :
    (updateZones zs s).port = s.port ∧ (updateZones zs s).converter = s.converter
      ∧ (updateZones zs s).lines = s.lines ∧ (updateZones zs s).store = s.store
      ∧ (updateZones zs s).takeOff = s.takeOff ∧ (updateZones zs s).timer = s.timer
      ∧ (updateZones zs s).reply = s.reply ∧ (updateZones zs s).downstream = s.downstream
      ∧ (updateZones zs s).freeIndex = s.freeIndex ∧ (updateZones zs s).pending = s.pending := by
  induction zs generalizing s with
  | nil => simp [updateZones]
  | cons a l ih =>
    unfold updateZones
    (repeat' split) <;> simp [*]

@[simp] theorem pressureTest_frame (s : State) :
    (pressureTest s).port = s.port ∧ (pressureTest s).converter = s.converter
      ∧ (pressureTest s).lines = s.lines ∧ (pressureTest s).store = s.store
      ∧ (pressureTest s).takeOff = s.takeOff ∧ (pressureTest s).timer = s.timer
      ∧ (pressureTest s).reply = s.reply ∧ (pressureTest s).downstream = s.downstream
      ∧ (pressureTest s).freeIndex = s.freeIndex ∧ (pressureTest s).pending = s.pending := by
  unfold pressureTest
  (repeat' (first | split | dsimp only)) <;> simp

@[simp] theorem regulateValves_frame (s : State) :
    (regulateValves s).port = s.port ∧ (regulateValves s).converter = s.converter
      ∧ (regulateValves s).lines = s.lines ∧ (regulateValves s).store = s.store
      ∧ (regulateValves s).folds = s.folds ∧ (regulateValves s).seq = s.seq
      ∧ (regulateValves s).track = s.track ∧ (regulateValves s).gov = s.gov
      ∧ (regulateValves s).roll = s.roll ∧ (regulateValves s).takeOff = s.takeOff
      ∧ (regulateValves s).notices = s.notices ∧ (regulateValves s).timer = s.timer
      ∧ (regulateValves s).reply = s.reply ∧ (regulateValves s).downstream = s.downstream
      ∧ (regulateValves s).freeIndex = s.freeIndex ∧ (regulateValves s).pending = s.pending := by
  unfold regulateValves
  (repeat' (first | split | dsimp only)) <;> simp

@[simp] theorem tunnelRegulation_frame (s : State) :
    (tunnelRegulation s).port = s.port ∧ (tunnelRegulation s).converter = s.converter
      ∧ (tunnelRegulation s).lines = s.lines ∧ (tunnelRegulation s).store = s.store
      ∧ (tunnelRegulation s).takeOff = s.takeOff ∧ (tunnelRegulation s).timer = s.timer
      ∧ (tunnelRegulation s).reply = s.reply ∧ (tunnelRegulation s).downstream = s.downstream
      ∧ (tunnelRegulation s).freeIndex = s.freeIndex ∧ (tunnelRegulation s).pending = s.pending := by
  unfold tunnelRegulation
  (repeat' (first | split | dsimp only)) <;> simp

@[simp] theorem addExposure_frame (n : Nat) (i : Fin 64) (s : State) :
    (addExposure n i s).port = s.port ∧ (addExposure n i s).converter = s.converter
      ∧ (addExposure n i s).lines = s.lines ∧ (addExposure n i s).store = s.store
      ∧ (addExposure n i s).takeOff = s.takeOff ∧ (addExposure n i s).timer = s.timer
      ∧ (addExposure n i s).reply = s.reply ∧ (addExposure n i s).downstream = s.downstream
      ∧ (addExposure n i s).freeIndex = s.freeIndex ∧ (addExposure n i s).pending = s.pending := by
  unfold addExposure
  (repeat' (first | split | dsimp only)) <;> simp

@[simp] theorem accountRecord_frame (n : Nat) (i : Fin 64) (s : State) :
    (accountRecord n i s).port = s.port ∧ (accountRecord n i s).converter = s.converter
      ∧ (accountRecord n i s).lines = s.lines ∧ (accountRecord n i s).store = s.store
      ∧ (accountRecord n i s).takeOff = s.takeOff ∧ (accountRecord n i s).timer = s.timer
      ∧ (accountRecord n i s).reply = s.reply ∧ (accountRecord n i s).downstream = s.downstream
      ∧ (accountRecord n i s).freeIndex = s.freeIndex ∧ (accountRecord n i s).pending = s.pending := by
  unfold accountRecord
  (repeat' (first | split | dsimp only)) <;> simp

@[simp] theorem accountAll_frame (n : Nat) (l : List (Fin 64)) (s : State) :
    (accountAll n l s).port = s.port ∧ (accountAll n l s).converter = s.converter
      ∧ (accountAll n l s).lines = s.lines ∧ (accountAll n l s).store = s.store
      ∧ (accountAll n l s).takeOff = s.takeOff ∧ (accountAll n l s).timer = s.timer
      ∧ (accountAll n l s).reply = s.reply ∧ (accountAll n l s).downstream = s.downstream
      ∧ (accountAll n l s).freeIndex = s.freeIndex ∧ (accountAll n l s).pending = s.pending := by
  induction l generalizing s with
  | nil => simp [accountAll]
  | cons a l ih =>
    unfold accountAll
    (repeat' split) <;> simp [*]

@[simp] theorem tunnelAccounting_frame (n : Nat) (s : State) :
    (tunnelAccounting n s).port = s.port ∧ (tunnelAccounting n s).converter = s.converter
      ∧ (tunnelAccounting n s).lines = s.lines ∧ (tunnelAccounting n s).store = s.store
      ∧ (tunnelAccounting n s).takeOff = s.takeOff ∧ (tunnelAccounting n s).timer = s.timer
      ∧ (tunnelAccounting n s).reply = s.reply ∧ (tunnelAccounting n s).downstream = s.downstream
      ∧ (tunnelAccounting n s).freeIndex = s.freeIndex ∧ (tunnelAccounting n s).pending = s.pending := by
  unfold tunnelAccounting
  (repeat' (first | split | dsimp only)) <;> simp

@[simp] theorem stampRecord_frame (ts : Timestamp) (i : Fin 64) (s : State) :
    (stampRecord ts i s).port = s.port ∧ (stampRecord ts i s).converter = s.converter
      ∧ (stampRecord ts i s).lines = s.lines ∧ (stampRecord ts i s).store = s.store
      ∧ (stampRecord ts i s).folds = s.folds ∧ (stampRecord ts i s).seq = s.seq
      ∧ (stampRecord ts i s).gov = s.gov ∧ (stampRecord ts i s).tunnel = s.tunnel
      ∧ (stampRecord ts i s).roll = s.roll ∧ (stampRecord ts i s).takeOff = s.takeOff
      ∧ (stampRecord ts i s).notices = s.notices ∧ (stampRecord ts i s).timer = s.timer
      ∧ (stampRecord ts i s).reply = s.reply ∧ (stampRecord ts i s).downstream = s.downstream
      ∧ (stampRecord ts i s).freeIndex = s.freeIndex ∧ (stampRecord ts i s).pending = s.pending := by
  unfold stampRecord
  (repeat' (first | split | dsimp only)) <;> simp

@[simp] theorem stampAll_frame (ts : Timestamp) (l : List (Fin 64)) (s : State) :
    (stampAll ts l s).port = s.port ∧ (stampAll ts l s).converter = s.converter
      ∧ (stampAll ts l s).lines = s.lines ∧ (stampAll ts l s).store = s.store
      ∧ (stampAll ts l s).folds = s.folds ∧ (stampAll ts l s).seq = s.seq ∧ (stampAll ts l s).gov = s.gov
      ∧ (stampAll ts l s).tunnel = s.tunnel ∧ (stampAll ts l s).roll = s.roll
      ∧ (stampAll ts l s).takeOff = s.takeOff ∧ (stampAll ts l s).notices = s.notices
      ∧ (stampAll ts l s).timer = s.timer ∧ (stampAll ts l s).reply = s.reply
      ∧ (stampAll ts l s).downstream = s.downstream ∧ (stampAll ts l s).freeIndex = s.freeIndex
      ∧ (stampAll ts l s).pending = s.pending := by
  induction l generalizing s with
  | nil => simp [stampAll]
  | cons a l ih =>
    unfold stampAll
    (repeat' split) <;> simp [*]

@[simp] theorem transitWork_frame (ts : Timestamp) (s : State) :
    (transitWork ts s).port = s.port ∧ (transitWork ts s).converter = s.converter
      ∧ (transitWork ts s).lines = s.lines ∧ (transitWork ts s).store = s.store
      ∧ (transitWork ts s).folds = s.folds ∧ (transitWork ts s).seq = s.seq
      ∧ (transitWork ts s).gov = s.gov ∧ (transitWork ts s).tunnel = s.tunnel
      ∧ (transitWork ts s).roll = s.roll ∧ (transitWork ts s).takeOff = s.takeOff
      ∧ (transitWork ts s).notices = s.notices ∧ (transitWork ts s).timer = s.timer
      ∧ (transitWork ts s).reply = s.reply ∧ (transitWork ts s).downstream = s.downstream
      ∧ (transitWork ts s).freeIndex = s.freeIndex ∧ (transitWork ts s).pending = s.pending := by
  unfold transitWork
  (repeat' (first | split | dsimp only)) <;> simp

@[simp] theorem dwellChecks_frame (i : Fin 64) (s : State) :
    (dwellChecks i s).port = s.port ∧ (dwellChecks i s).converter = s.converter
      ∧ (dwellChecks i s).lines = s.lines ∧ (dwellChecks i s).store = s.store
      ∧ (dwellChecks i s).tunnel = s.tunnel ∧ (dwellChecks i s).takeOff = s.takeOff
      ∧ (dwellChecks i s).timer = s.timer ∧ (dwellChecks i s).reply = s.reply
      ∧ (dwellChecks i s).downstream = s.downstream ∧ (dwellChecks i s).freeIndex = s.freeIndex
      ∧ (dwellChecks i s).pending = s.pending := by
  unfold dwellChecks
  (repeat' (first | split | dsimp only)) <;> simp

@[simp] theorem measureRolls_frame (s : State) :
    (measureRolls s).port = s.port ∧ (measureRolls s).converter = s.converter
      ∧ (measureRolls s).lines = s.lines ∧ (measureRolls s).store = s.store
      ∧ (measureRolls s).folds = s.folds ∧ (measureRolls s).seq = s.seq ∧ (measureRolls s).track = s.track
      ∧ (measureRolls s).gov = s.gov ∧ (measureRolls s).tunnel = s.tunnel
      ∧ (measureRolls s).takeOff = s.takeOff ∧ (measureRolls s).notices = s.notices
      ∧ (measureRolls s).timer = s.timer ∧ (measureRolls s).reply = s.reply
      ∧ (measureRolls s).downstream = s.downstream ∧ (measureRolls s).freeIndex = s.freeIndex
      ∧ (measureRolls s).pending = s.pending := by
  unfold measureRolls
  (repeat' (first | split | dsimp only)) <;> simp

@[simp] theorem runoutTest_frame (s : State) :
    (runoutTest s).port = s.port ∧ (runoutTest s).converter = s.converter
      ∧ (runoutTest s).lines = s.lines ∧ (runoutTest s).store = s.store ∧ (runoutTest s).tunnel = s.tunnel
      ∧ (runoutTest s).takeOff = s.takeOff ∧ (runoutTest s).timer = s.timer
      ∧ (runoutTest s).reply = s.reply ∧ (runoutTest s).downstream = s.downstream
      ∧ (runoutTest s).freeIndex = s.freeIndex ∧ (runoutTest s).pending = s.pending := by
  unfold runoutTest
  (repeat' (first | split | dsimp only)) <;> simp

@[simp] theorem freeExpired_frame (n : SpindleName) (s : State) :
    (freeExpired n s).port = s.port ∧ (freeExpired n s).converter = s.converter
      ∧ (freeExpired n s).lines = s.lines ∧ (freeExpired n s).store = s.store
      ∧ (freeExpired n s).folds = s.folds ∧ (freeExpired n s).seq = s.seq
      ∧ (freeExpired n s).track = s.track ∧ (freeExpired n s).gov = s.gov
      ∧ (freeExpired n s).tunnel = s.tunnel ∧ (freeExpired n s).takeOff = s.takeOff
      ∧ (freeExpired n s).notices = s.notices ∧ (freeExpired n s).timer = s.timer
      ∧ (freeExpired n s).reply = s.reply ∧ (freeExpired n s).downstream = s.downstream
      ∧ (freeExpired n s).freeIndex = s.freeIndex ∧ (freeExpired n s).pending = s.pending := by
  unfold freeExpired
  (repeat' (first | split | dsimp only)) <;> simp

@[simp] theorem failMatch_frame (s : State) :
    (failMatch s).port = s.port ∧ (failMatch s).converter = s.converter ∧ (failMatch s).lines = s.lines
      ∧ (failMatch s).store = s.store ∧ (failMatch s).tunnel = s.tunnel ∧ (failMatch s).takeOff = s.takeOff
      ∧ (failMatch s).timer = s.timer ∧ (failMatch s).reply = s.reply
      ∧ (failMatch s).downstream = s.downstream ∧ (failMatch s).freeIndex = s.freeIndex
      ∧ (failMatch s).pending = s.pending := by
  unfold failMatch
  (repeat' (first | split | dsimp only)) <;> simp

/-- All that a timeout test asks: a phase whose timestamp lies further back than the timeout. -/
theorem phaseExceeds_iff {r : RollChange} {ts : Timestamp} {timeout : Nat} :
    phaseExceeds r ts timeout = true ↔ ∃ p, r.phase = some p ∧ timeout * 1000 < distance ts p := by
  unfold phaseExceeds
  cases r.phase <;> simp

/-- A stroke carries its entry's calculation depth, but 0 for a multiplier of 0, and never more than the calculation depth. -/
theorem strokeDepth_spec (f : FoldPart) :
    (f.multiplier = 0 → strokeDepth f = 0) ∧ (f.multiplier ≠ 0 → strokeDepth f = f.depth) ∧ strokeDepth f ≤ f.depth := by
  unfold strokeDepth
  split <;> simp_all

@[simp] theorem matchingWork_frame (ts : Timestamp) (s : State) :
    (matchingWork ts s).port = s.port ∧ (matchingWork ts s).converter = s.converter
      ∧ (matchingWork ts s).lines = s.lines ∧ (matchingWork ts s).store = s.store
      ∧ (matchingWork ts s).tunnel = s.tunnel ∧ (matchingWork ts s).takeOff = s.takeOff
      ∧ (matchingWork ts s).timer = s.timer ∧ (matchingWork ts s).reply = s.reply
      ∧ (matchingWork ts s).downstream = s.downstream ∧ (matchingWork ts s).freeIndex = s.freeIndex
      ∧ (matchingWork ts s).pending = s.pending := by
  unfold matchingWork
  (repeat' (first | split | dsimp only)) <;> simp

@[simp] theorem replaceSpan_frame (s : State) :
    (replaceSpan s).port = s.port ∧ (replaceSpan s).converter = s.converter
      ∧ (replaceSpan s).lines = s.lines ∧ (replaceSpan s).store = s.store ∧ (replaceSpan s).folds = s.folds
      ∧ (replaceSpan s).seq = s.seq ∧ (replaceSpan s).gov = s.gov ∧ (replaceSpan s).tunnel = s.tunnel
      ∧ (replaceSpan s).takeOff = s.takeOff ∧ (replaceSpan s).notices = s.notices
      ∧ (replaceSpan s).timer = s.timer ∧ (replaceSpan s).reply = s.reply
      ∧ (replaceSpan s).downstream = s.downstream ∧ (replaceSpan s).freeIndex = s.freeIndex
      ∧ (replaceSpan s).pending = s.pending := by
  unfold replaceSpan
  (repeat' (first | split | dsimp only)) <;> simp

@[simp] theorem confirmPaste_frame (s : State) :
    (confirmPaste s).port = s.port ∧ (confirmPaste s).converter = s.converter
      ∧ (confirmPaste s).lines = s.lines ∧ (confirmPaste s).store = s.store
      ∧ (confirmPaste s).folds = s.folds ∧ (confirmPaste s).seq = s.seq ∧ (confirmPaste s).gov = s.gov
      ∧ (confirmPaste s).tunnel = s.tunnel ∧ (confirmPaste s).takeOff = s.takeOff
      ∧ (confirmPaste s).notices = s.notices ∧ (confirmPaste s).timer = s.timer
      ∧ (confirmPaste s).reply = s.reply ∧ (confirmPaste s).downstream = s.downstream
      ∧ (confirmPaste s).freeIndex = s.freeIndex ∧ (confirmPaste s).pending = s.pending := by
  unfold confirmPaste
  (repeat' (first | split | dsimp only)) <;> simp

@[simp] theorem pasteWork_frame (ts : Timestamp) (s : State) :
    (pasteWork ts s).port = s.port ∧ (pasteWork ts s).converter = s.converter
      ∧ (pasteWork ts s).lines = s.lines ∧ (pasteWork ts s).store = s.store
      ∧ (pasteWork ts s).tunnel = s.tunnel ∧ (pasteWork ts s).takeOff = s.takeOff
      ∧ (pasteWork ts s).timer = s.timer ∧ (pasteWork ts s).reply = s.reply
      ∧ (pasteWork ts s).downstream = s.downstream ∧ (pasteWork ts s).freeIndex = s.freeIndex
      ∧ (pasteWork ts s).pending = s.pending := by
  unfold pasteWork
  (repeat' (first | split | dsimp only)) <;> simp

@[simp] theorem clearWork_frame (s : State) :
    (clearWork s).port = s.port ∧ (clearWork s).converter = s.converter ∧ (clearWork s).lines = s.lines
      ∧ (clearWork s).store = s.store ∧ (clearWork s).tunnel = s.tunnel ∧ (clearWork s).takeOff = s.takeOff
      ∧ (clearWork s).timer = s.timer ∧ (clearWork s).reply = s.reply
      ∧ (clearWork s).downstream = s.downstream ∧ (clearWork s).freeIndex = s.freeIndex
      ∧ (clearWork s).pending = s.pending := by
  unfold clearWork
  (repeat' (first | split | dsimp only)) <;> simp

@[simp] theorem armedWork_frame (ts : Timestamp) (s : State) :
    (armedWork ts s).port = s.port ∧ (armedWork ts s).converter = s.converter
      ∧ (armedWork ts s).lines = s.lines ∧ (armedWork ts s).store = s.store
      ∧ (armedWork ts s).folds = s.folds ∧ (armedWork ts s).seq = s.seq ∧ (armedWork ts s).track = s.track
      ∧ (armedWork ts s).gov = s.gov ∧ (armedWork ts s).tunnel = s.tunnel
      ∧ (armedWork ts s).takeOff = s.takeOff ∧ (armedWork ts s).notices = s.notices
      ∧ (armedWork ts s).timer = s.timer ∧ (armedWork ts s).reply = s.reply
      ∧ (armedWork ts s).downstream = s.downstream ∧ (armedWork ts s).freeIndex = s.freeIndex
      ∧ (armedWork ts s).pending = s.pending := by
  unfold armedWork
  (repeat' (first | split | dsimp only)) <;> simp

@[simp] theorem spliceWork_frame (ts : Timestamp) (s : State) :
    (spliceWork ts s).port = s.port ∧ (spliceWork ts s).converter = s.converter
      ∧ (spliceWork ts s).lines = s.lines ∧ (spliceWork ts s).store = s.store
      ∧ (spliceWork ts s).tunnel = s.tunnel ∧ (spliceWork ts s).takeOff = s.takeOff
      ∧ (spliceWork ts s).timer = s.timer ∧ (spliceWork ts s).reply = s.reply
      ∧ (spliceWork ts s).downstream = s.downstream ∧ (spliceWork ts s).freeIndex = s.freeIndex
      ∧ (spliceWork ts s).pending = s.pending := by
  unfold spliceWork
  (repeat' (first | split | dsimp only)) <;> simp

@[simp] theorem armingOn_frame (ts : Timestamp) (r : TrackRecord) (s : State) :
    (armingOn ts r s).port = s.port ∧ (armingOn ts r s).converter = s.converter
      ∧ (armingOn ts r s).lines = s.lines ∧ (armingOn ts r s).store = s.store
      ∧ (armingOn ts r s).tunnel = s.tunnel ∧ (armingOn ts r s).takeOff = s.takeOff
      ∧ (armingOn ts r s).timer = s.timer ∧ (armingOn ts r s).reply = s.reply
      ∧ (armingOn ts r s).downstream = s.downstream ∧ (armingOn ts r s).freeIndex = s.freeIndex
      ∧ (armingOn ts r s).pending = s.pending := by
  unfold armingOn
  (repeat' (first | split | dsimp only)) <;> simp

@[simp] theorem armingTests_frame (ts : Timestamp) (s : State) :
    (armingTests ts s).port = s.port ∧ (armingTests ts s).converter = s.converter
      ∧ (armingTests ts s).lines = s.lines ∧ (armingTests ts s).store = s.store
      ∧ (armingTests ts s).tunnel = s.tunnel ∧ (armingTests ts s).takeOff = s.takeOff
      ∧ (armingTests ts s).timer = s.timer ∧ (armingTests ts s).reply = s.reply
      ∧ (armingTests ts s).downstream = s.downstream ∧ (armingTests ts s).freeIndex = s.freeIndex
      ∧ (armingTests ts s).pending = s.pending := by
  unfold armingTests
  (repeat' (first | split | dsimp only)) <;> simp

@[simp] theorem pasteField_frame (s : State) :
    (pasteField s).port = s.port ∧ (pasteField s).converter = s.converter
      ∧ (pasteField s).lines = s.lines ∧ (pasteField s).store = s.store ∧ (pasteField s).folds = s.folds
      ∧ (pasteField s).seq = s.seq ∧ (pasteField s).track = s.track ∧ (pasteField s).gov = s.gov
      ∧ (pasteField s).tunnel = s.tunnel ∧ (pasteField s).takeOff = s.takeOff
      ∧ (pasteField s).notices = s.notices ∧ (pasteField s).timer = s.timer
      ∧ (pasteField s).reply = s.reply ∧ (pasteField s).downstream = s.downstream
      ∧ (pasteField s).freeIndex = s.freeIndex ∧ (pasteField s).pending = s.pending := by
  unfold pasteField
  (repeat' (first | split | dsimp only)) <;> simp

@[simp] theorem rollWork_frame (ts : Timestamp) (s : State) :
    (rollWork ts s).port = s.port ∧ (rollWork ts s).converter = s.converter
      ∧ (rollWork ts s).lines = s.lines ∧ (rollWork ts s).store = s.store
      ∧ (rollWork ts s).tunnel = s.tunnel ∧ (rollWork ts s).takeOff = s.takeOff
      ∧ (rollWork ts s).timer = s.timer ∧ (rollWork ts s).reply = s.reply
      ∧ (rollWork ts s).downstream = s.downstream ∧ (rollWork ts s).freeIndex = s.freeIndex
      ∧ (rollWork ts s).pending = s.pending := by
  unfold rollWork
  (repeat' (first | split | dsimp only)) <;> simp

@[simp] theorem drainTests_frame (s : State) :
    (drainTests s).port = s.port ∧ (drainTests s).converter = s.converter
      ∧ (drainTests s).lines = s.lines ∧ (drainTests s).store = s.store ∧ (drainTests s).folds = s.folds
      ∧ (drainTests s).seq = s.seq ∧ (drainTests s).track = s.track ∧ (drainTests s).tunnel = s.tunnel
      ∧ (drainTests s).roll = s.roll ∧ (drainTests s).takeOff = s.takeOff
      ∧ (drainTests s).notices = s.notices ∧ (drainTests s).timer = s.timer
      ∧ (drainTests s).reply = s.reply ∧ (drainTests s).downstream = s.downstream
      ∧ (drainTests s).freeIndex = s.freeIndex ∧ (drainTests s).pending = s.pending := by
  unfold drainTests
  (repeat' (first | split | dsimp only)) <;> simp

@[simp] theorem enterStopped_frame (s : State) :
    (enterStopped s).port = s.port ∧ (enterStopped s).converter = s.converter
      ∧ (enterStopped s).lines = s.lines ∧ (enterStopped s).store = s.store
      ∧ (enterStopped s).tunnel = s.tunnel ∧ (enterStopped s).takeOff = s.takeOff
      ∧ (enterStopped s).timer = s.timer ∧ (enterStopped s).reply = s.reply
      ∧ (enterStopped s).downstream = s.downstream ∧ (enterStopped s).freeIndex = s.freeIndex
      ∧ (enterStopped s).pending = s.pending := by
  unfold enterStopped
  (repeat' (first | split | dsimp only)) <;> simp

@[simp] theorem stopTest_frame (s : State) :
    (stopTest s).port = s.port ∧ (stopTest s).converter = s.converter ∧ (stopTest s).lines = s.lines
      ∧ (stopTest s).store = s.store ∧ (stopTest s).tunnel = s.tunnel ∧ (stopTest s).takeOff = s.takeOff
      ∧ (stopTest s).timer = s.timer ∧ (stopTest s).reply = s.reply
      ∧ (stopTest s).downstream = s.downstream ∧ (stopTest s).freeIndex = s.freeIndex
      ∧ (stopTest s).pending = s.pending := by
  unfold stopTest
  (repeat' (first | split | dsimp only)) <;> simp

@[simp] theorem listenStop_frame (s : State) :
    (listenStop s).port = s.port ∧ (listenStop s).converter = s.converter
      ∧ (listenStop s).lines = s.lines ∧ (listenStop s).store = s.store ∧ (listenStop s).folds = s.folds
      ∧ (listenStop s).tunnel = s.tunnel ∧ (listenStop s).takeOff = s.takeOff
      ∧ (listenStop s).notices = s.notices ∧ (listenStop s).timer = s.timer
      ∧ (listenStop s).reply = s.reply ∧ (listenStop s).downstream = s.downstream
      ∧ (listenStop s).freeIndex = s.freeIndex ∧ (listenStop s).pending = s.pending := by
  unfold listenStop
  (repeat' (first | split | dsimp only)) <;> simp

@[simp] theorem composeLimits_frame (s : State) :
    (composeLimits s).port = s.port ∧ (composeLimits s).converter = s.converter
      ∧ (composeLimits s).lines = s.lines ∧ (composeLimits s).store = s.store
      ∧ (composeLimits s).tunnel = s.tunnel ∧ (composeLimits s).takeOff = s.takeOff
      ∧ (composeLimits s).timer = s.timer ∧ (composeLimits s).reply = s.reply
      ∧ (composeLimits s).downstream = s.downstream ∧ (composeLimits s).freeIndex = s.freeIndex
      ∧ (composeLimits s).pending = s.pending := by
  unfold composeLimits
  (repeat' (first | split | dsimp only)) <;> simp

@[simp] theorem compose_frame (s : State) :
    (compose s).port = s.port ∧ (compose s).converter = s.converter ∧ (compose s).lines = s.lines
      ∧ (compose s).store = s.store ∧ (compose s).tunnel = s.tunnel ∧ (compose s).takeOff = s.takeOff
      ∧ (compose s).timer = s.timer ∧ (compose s).reply = s.reply ∧ (compose s).downstream = s.downstream
      ∧ (compose s).freeIndex = s.freeIndex ∧ (compose s).pending = s.pending := by
  unfold compose
  (repeat' (first | split | dsimp only)) <;> simp

@[simp] theorem rampStep_frame (s : State) :
    (rampStep s).port = s.port ∧ (rampStep s).converter = s.converter ∧ (rampStep s).lines = s.lines
      ∧ (rampStep s).store = s.store ∧ (rampStep s).folds = s.folds ∧ (rampStep s).tunnel = s.tunnel
      ∧ (rampStep s).takeOff = s.takeOff ∧ (rampStep s).notices = s.notices ∧ (rampStep s).timer = s.timer
      ∧ (rampStep s).reply = s.reply ∧ (rampStep s).downstream = s.downstream
      ∧ (rampStep s).freeIndex = s.freeIndex ∧ (rampStep s).pending = s.pending := by
  unfold rampStep
  (repeat' (first | split | dsimp only)) <;> simp

@[simp] theorem infeedStep_frame (r : Nat) (s : State) :
    (infeedStep r s).port = s.port ∧ (infeedStep r s).converter = s.converter
      ∧ (infeedStep r s).lines = s.lines ∧ (infeedStep r s).store = s.store
      ∧ (infeedStep r s).tunnel = s.tunnel ∧ (infeedStep r s).takeOff = s.takeOff
      ∧ (infeedStep r s).timer = s.timer ∧ (infeedStep r s).reply = s.reply
      ∧ (infeedStep r s).downstream = s.downstream ∧ (infeedStep r s).freeIndex = s.freeIndex
      ∧ (infeedStep r s).pending = s.pending := by
  unfold infeedStep
  (repeat' (first | split | dsimp only)) <;> simp

@[simp] theorem spindleStep_frame (x : SpliceState) (s : State) :
    (spindleStep x s).port = s.port ∧ (spindleStep x s).converter = s.converter
      ∧ (spindleStep x s).lines = s.lines ∧ (spindleStep x s).store = s.store ∧ (spindleStep x s).folds = s.folds
      ∧ (spindleStep x s).seq = s.seq ∧ (spindleStep x s).track = s.track ∧ (spindleStep x s).tunnel = s.tunnel
      ∧ (spindleStep x s).roll = s.roll ∧ (spindleStep x s).takeOff = s.takeOff
      ∧ (spindleStep x s).notices = s.notices ∧ (spindleStep x s).timer = s.timer
      ∧ (spindleStep x s).reply = s.reply ∧ (spindleStep x s).downstream = s.downstream
      ∧ (spindleStep x s).freeIndex = s.freeIndex ∧ (spindleStep x s).pending = s.pending := by
  unfold spindleStep
  (repeat' (first | split | dsimp only)) <;> simp

@[simp] theorem governorStep_frame (r : Nat) (x : SpliceState) (s : State) :
    (governorStep r x s).port = s.port ∧ (governorStep r x s).converter = s.converter
      ∧ (governorStep r x s).lines = s.lines ∧ (governorStep r x s).store = s.store
      ∧ (governorStep r x s).tunnel = s.tunnel ∧ (governorStep r x s).takeOff = s.takeOff
      ∧ (governorStep r x s).timer = s.timer ∧ (governorStep r x s).reply = s.reply
      ∧ (governorStep r x s).downstream = s.downstream ∧ (governorStep r x s).freeIndex = s.freeIndex
      ∧ (governorStep r x s).pending = s.pending := by
  unfold governorStep
  (repeat' (first | split | dsimp only)) <;> simp

@[simp] theorem leaveTunnel_frame (i : Fin 64) (rest : List (Fin 64)) (s : State) :
    (leaveTunnel i rest s).port = s.port ∧ (leaveTunnel i rest s).converter = s.converter
      ∧ (leaveTunnel i rest s).lines = s.lines ∧ (leaveTunnel i rest s).store = s.store
      ∧ (leaveTunnel i rest s).tunnel = s.tunnel ∧ (leaveTunnel i rest s).takeOff = s.takeOff
      ∧ (leaveTunnel i rest s).timer = s.timer ∧ (leaveTunnel i rest s).reply = s.reply
      ∧ (leaveTunnel i rest s).downstream = s.downstream ∧ (leaveTunnel i rest s).freeIndex = s.freeIndex
      ∧ (leaveTunnel i rest s).pending = s.pending := by
  unfold leaveTunnel
  (repeat' (first | split | dsimp only)) <;> simp

@[simp] theorem exitMoves_frame (ts : Timestamp) (n : Nat) (s : State) :
    (exitMoves ts n s).port = s.port ∧ (exitMoves ts n s).converter = s.converter
      ∧ (exitMoves ts n s).lines = s.lines ∧ (exitMoves ts n s).store = s.store
      ∧ (exitMoves ts n s).tunnel = s.tunnel ∧ (exitMoves ts n s).takeOff = s.takeOff
      ∧ (exitMoves ts n s).timer = s.timer ∧ (exitMoves ts n s).reply = s.reply
      ∧ (exitMoves ts n s).downstream = s.downstream ∧ (exitMoves ts n s).freeIndex = s.freeIndex
      ∧ (exitMoves ts n s).pending = s.pending := by
  induction n generalizing s with
  | zero => simp [exitMoves]
  | succ n ih =>
    unfold exitMoves
    (repeat' split) <;> simp [*]

@[simp] theorem exitWork_frame (ts : Timestamp) (s : State) :
    (exitWork ts s).port = s.port ∧ (exitWork ts s).converter = s.converter
      ∧ (exitWork ts s).lines = s.lines ∧ (exitWork ts s).store = s.store
      ∧ (exitWork ts s).tunnel = s.tunnel ∧ (exitWork ts s).takeOff = s.takeOff
      ∧ (exitWork ts s).timer = s.timer ∧ (exitWork ts s).reply = s.reply
      ∧ (exitWork ts s).downstream = s.downstream ∧ (exitWork ts s).freeIndex = s.freeIndex
      ∧ (exitWork ts s).pending = s.pending := by
  unfold exitWork
  (repeat' (first | split | dsimp only)) <;> simp

@[simp] theorem cutHead_frame (i : Fin 64) (rest : List (Fin 64)) (s : State) :
    (cutHead i rest s).port = s.port ∧ (cutHead i rest s).converter = s.converter
      ∧ (cutHead i rest s).lines = s.lines ∧ (cutHead i rest s).store = s.store
      ∧ (cutHead i rest s).tunnel = s.tunnel ∧ (cutHead i rest s).timer = s.timer
      ∧ (cutHead i rest s).reply = s.reply ∧ (cutHead i rest s).downstream = s.downstream
      ∧ (cutHead i rest s).freeIndex = s.freeIndex ∧ (cutHead i rest s).pending = s.pending := by
  unfold cutHead
  (repeat' (first | split | dsimp only)) <;> simp

@[simp] theorem cuts_frame (n : Nat) (s : State) :
    (cuts n s).port = s.port ∧ (cuts n s).converter = s.converter ∧ (cuts n s).lines = s.lines
      ∧ (cuts n s).store = s.store ∧ (cuts n s).tunnel = s.tunnel ∧ (cuts n s).timer = s.timer
      ∧ (cuts n s).reply = s.reply ∧ (cuts n s).downstream = s.downstream
      ∧ (cuts n s).freeIndex = s.freeIndex ∧ (cuts n s).pending = s.pending := by
  induction n generalizing s with
  | zero => simp [cuts]
  | succ n ih =>
    unfold cuts
    (repeat' split) <;> simp [*]

@[simp] theorem formCutEntry_frame (s : State) :
    (formCutEntry s).port = s.port ∧ (formCutEntry s).converter = s.converter
      ∧ (formCutEntry s).lines = s.lines ∧ (formCutEntry s).store = s.store
      ∧ (formCutEntry s).folds = s.folds ∧ (formCutEntry s).seq = s.seq ∧ (formCutEntry s).gov = s.gov
      ∧ (formCutEntry s).tunnel = s.tunnel ∧ (formCutEntry s).roll = s.roll
      ∧ (formCutEntry s).notices = s.notices ∧ (formCutEntry s).timer = s.timer
      ∧ (formCutEntry s).reply = s.reply ∧ (formCutEntry s).downstream = s.downstream
      ∧ (formCutEntry s).freeIndex = s.freeIndex ∧ (formCutEntry s).pending = s.pending := by
  unfold formCutEntry
  (repeat' (first | split | dsimp only)) <;> simp

@[simp] theorem takeOffWork_frame (s : State) :
    (takeOffWork s).port = s.port ∧ (takeOffWork s).converter = s.converter
      ∧ (takeOffWork s).lines = s.lines ∧ (takeOffWork s).store = s.store
      ∧ (takeOffWork s).tunnel = s.tunnel ∧ (takeOffWork s).timer = s.timer
      ∧ (takeOffWork s).reply = s.reply ∧ (takeOffWork s).downstream = s.downstream
      ∧ (takeOffWork s).freeIndex = s.freeIndex ∧ (takeOffWork s).pending = s.pending := by
  unfold takeOffWork
  (repeat' (first | split | dsimp only)) <;> simp

@[simp] theorem takeIn_frame (rx : Reception) (s : State) :
    (takeIn rx s).port = s.port ∧ (takeIn rx s).converter = s.converter ∧ (takeIn rx s).store = s.store
      ∧ (takeIn rx s).folds = s.folds ∧ (takeIn rx s).seq = s.seq ∧ (takeIn rx s).track = s.track
      ∧ (takeIn rx s).gov = s.gov ∧ (takeIn rx s).tunnel = s.tunnel ∧ (takeIn rx s).roll = s.roll
      ∧ (takeIn rx s).takeOff = s.takeOff ∧ (takeIn rx s).notices = s.notices
      ∧ (takeIn rx s).downstream = s.downstream ∧ (takeIn rx s).pending = s.pending := by
  unfold takeIn
  (repeat' (first | split | dsimp only)) <;> simp

@[simp] theorem noteBehind_frame (was : Bool) (s : State) :
    (noteBehind was s).port = s.port
      ∧ (noteBehind was s).converter = s.converter
      ∧ (noteBehind was s).lines = s.lines
      ∧ (noteBehind was s).store = s.store
      ∧ (noteBehind was s).folds = s.folds
      ∧ (noteBehind was s).seq = s.seq
      ∧ (noteBehind was s).gov = s.gov
      ∧ (noteBehind was s).tunnel = s.tunnel
      ∧ (noteBehind was s).roll = s.roll
      ∧ (noteBehind was s).takeOff = s.takeOff
      ∧ (noteBehind was s).notices = s.notices
      ∧ (noteBehind was s).timer = s.timer
      ∧ (noteBehind was s).reply = s.reply
      ∧ (noteBehind was s).downstream = s.downstream
      ∧ (noteBehind was s).freeIndex = s.freeIndex
      ∧ (noteBehind was s).pending = s.pending := by
  unfold noteBehind
  split <;> simp

@[simp] theorem sampleWork_frame (f : Frame) (s : State) :
    (sampleWork f s).port = s.port ∧ (sampleWork f s).store = s.store
      ∧ (sampleWork f s).tunnel = s.tunnel ∧ (sampleWork f s).takeOff = s.takeOff
      ∧ (sampleWork f s).timer = s.timer ∧ (sampleWork f s).reply = s.reply
      ∧ (sampleWork f s).downstream = s.downstream ∧ (sampleWork f s).freeIndex = s.freeIndex
      ∧ (sampleWork f s).pending = s.pending := by
  unfold sampleWork
  (repeat' (first | split | dsimp only)) <;> simp

@[simp] theorem beforeDecision_frame (ts : Timestamp) (s : State) :
    (beforeDecision ts s).port = s.port ∧ (beforeDecision ts s).converter = s.converter
      ∧ (beforeDecision ts s).lines = s.lines ∧ (beforeDecision ts s).store = s.store
      ∧ (beforeDecision ts s).takeOff = s.takeOff ∧ (beforeDecision ts s).timer = s.timer
      ∧ (beforeDecision ts s).reply = s.reply ∧ (beforeDecision ts s).downstream = s.downstream
      ∧ (beforeDecision ts s).freeIndex = s.freeIndex ∧ (beforeDecision ts s).pending = s.pending := by
  unfold beforeDecision
  (repeat' (first | split | dsimp only)) <;> simp

@[simp] theorem webWork_frame (ts : Timestamp) (s : State) :
    (webWork ts s).port = s.port ∧ (webWork ts s).converter = s.converter
      ∧ (webWork ts s).lines = s.lines ∧ (webWork ts s).store = s.store
      ∧ (webWork ts s).takeOff = s.takeOff ∧ (webWork ts s).timer = s.timer
      ∧ (webWork ts s).reply = s.reply ∧ (webWork ts s).downstream = s.downstream
      ∧ (webWork ts s).freeIndex = s.freeIndex ∧ (webWork ts s).pending = s.pending := by
  unfold webWork
  (repeat' (first | split | dsimp only)) <;> simp

@[simp] theorem lineWork_frame (n r : Nat) (x : SpliceState) (ts : Timestamp) (s : State) :
    (lineWork n r x ts s).port = s.port ∧ (lineWork n r x ts s).converter = s.converter
      ∧ (lineWork n r x ts s).lines = s.lines ∧ (lineWork n r x ts s).store = s.store
      ∧ (lineWork n r x ts s).takeOff = s.takeOff ∧ (lineWork n r x ts s).timer = s.timer
      ∧ (lineWork n r x ts s).reply = s.reply ∧ (lineWork n r x ts s).downstream = s.downstream
      ∧ (lineWork n r x ts s).freeIndex = s.freeIndex ∧ (lineWork n r x ts s).pending = s.pending := by
  unfold lineWork
  (repeat' (first | split | dsimp only)) <;> simp

@[simp] theorem activeWork_frame (n : Nat) (ts : Timestamp) (s : State) :
    (activeWork n ts s).port = s.port ∧ (activeWork n ts s).converter = s.converter
      ∧ (activeWork n ts s).lines = s.lines ∧ (activeWork n ts s).store = s.store
      ∧ (activeWork n ts s).timer = s.timer ∧ (activeWork n ts s).reply = s.reply
      ∧ (activeWork n ts s).downstream = s.downstream ∧ (activeWork n ts s).freeIndex = s.freeIndex
      ∧ (activeWork n ts s).pending = s.pending := by
  unfold activeWork
  (repeat' (first | split | dsimp only)) <;> simp

@[simp] theorem arrivalWork_frame (n : Nat) (f : Frame) (s : State) :
    (arrivalWork n f s).port = s.port ∧ (arrivalWork n f s).store = s.store
      ∧ (arrivalWork n f s).timer = s.timer ∧ (arrivalWork n f s).reply = s.reply
      ∧ (arrivalWork n f s).downstream = s.downstream ∧ (arrivalWork n f s).freeIndex = s.freeIndex
      ∧ (arrivalWork n f s).pending = s.pending := by
  unfold arrivalWork
  (repeat' (first | split | dsimp only)) <;> simp

@[simp] theorem arrival_frame (f : Frame) (s : State) :
    (arrival f s).store = s.store ∧ (arrival f s).timer = s.timer ∧ (arrival f s).reply = s.reply
      ∧ (arrival f s).downstream = s.downstream ∧ (arrival f s).freeIndex = s.freeIndex
      ∧ (arrival f s).pending = s.pending := by
  unfold arrival
  (repeat' (first | split | dsimp only)) <;> simp

@[simp] theorem badFrame_frame (c : ErrorCode) (s : State) :
    (badFrame c s).lines = s.lines ∧ (badFrame c s).store = s.store ∧ (badFrame c s).tunnel = s.tunnel
      ∧ (badFrame c s).takeOff = s.takeOff ∧ (badFrame c s).timer = s.timer
      ∧ (badFrame c s).reply = s.reply ∧ (badFrame c s).downstream = s.downstream
      ∧ (badFrame c s).freeIndex = s.freeIndex ∧ (badFrame c s).pending = s.pending := by
  unfold badFrame
  (repeat' (first | split | dsimp only)) <;> simp

@[simp] theorem goodOutside_frame (f : Frame) (s : State) :
    (goodOutside f s).lines = s.lines ∧ (goodOutside f s).store = s.store
      ∧ (goodOutside f s).tunnel = s.tunnel ∧ (goodOutside f s).takeOff = s.takeOff
      ∧ (goodOutside f s).timer = s.timer ∧ (goodOutside f s).reply = s.reply
      ∧ (goodOutside f s).downstream = s.downstream ∧ (goodOutside f s).freeIndex = s.freeIndex
      ∧ (goodOutside f s).pending = s.pending := by
  unfold goodOutside
  (repeat' (first | split | dsimp only)) <;> simp

@[simp] theorem frameWork_frame (f : Frame) (s : State) :
    (frameWork f s).store = s.store ∧ (frameWork f s).timer = s.timer ∧ (frameWork f s).reply = s.reply
      ∧ (frameWork f s).downstream = s.downstream ∧ (frameWork f s).freeIndex = s.freeIndex
      ∧ (frameWork f s).pending = s.pending := by
  unfold frameWork
  (repeat' (first | split | dsimp only)) <;> simp

end Sys2Proof.Machine
end

