-- ==== Sys2Proof/Laws/Blocks.lean ====
section
/-! SUPPORT. What the shared operations do: the raising of notices (R188), the quantities of a conversion (R25), the
reception of a frame in time (R6), track records read back, and the in-use test (R50). -/

namespace Sys2Proof.Machine

/-! ### Raising notices -/

/-- A raised notice is pending when its route is enabled. -/
theorem raiseNotice_pending (n : Notice) (s : State) (h : s.notices.routes[noticeIndex n].enabled = true) :
    isPending (raiseNotice n s).notices (noticeIndex n) = true := by
  have hd : ∀ s, (haltDemand s).notices = s.notices := by simp
  unfold raiseNotice
  dsimp only
  rw [if_pos h]
  have : isPending { s.notices with pendingSet := s.notices.pendingSet ||| noticeBit (noticeIndex n) }
      (noticeIndex n) = true := by
    simp [isPending, noticeBit]
  split <;> simpa using this

/-- A raising removes no pending notice. -/
theorem raiseNotice_keeps (n : Notice) (s : State) (i : Fin 40) (h : isPending s.notices i = true) :
    isPending (raiseNotice n s).notices i = true := by
  unfold raiseNotice
  dsimp only
  split
  · have : isPending { s.notices with pendingSet := s.notices.pendingSet ||| noticeBit (noticeIndex n) } i = true := by
      simp [isPending] at *
      exact .inl h
    split <;> simpa using this
  · exact h

/-- Raisings remove no pending notice. -/
theorem raiseAll_keeps (ns : List Notice) (s : State) (i : Fin 40) (h : isPending s.notices i = true) :
    isPending (raiseAll ns s).notices i = true := by
  induction ns generalizing s with
  | nil => exact h
  | cons a l ih => exact ih _ (raiseNotice_keeps a s i h)

/-- A raising with its route disabled changes nothing (R188). -/
theorem raiseNotice_disabled (n : Notice) (s : State) (h : s.notices.routes[noticeIndex n].enabled = false) :
    raiseNotice n s = s := by
  unfold raiseNotice
  dsimp only
  rw [if_neg]
  rw [h]
  decide

/-- A halt demand in a line that neither runs nor stops changes nothing (R189). -/
theorem haltDemand_at_rest (s : State) (h : lineRunning s.gov.line = false) : haltDemand s = s := by
  simp [haltDemand, h]

/-- A raising is either nothing, a new pending set alone, or that followed by the line's entry into HALTED. -/
theorem raiseNotice_cases (n : Notice) (s : State) :
    raiseNotice n s = s
      ∨ ∃ t, t = s.withNotices { s.notices with pendingSet := s.notices.pendingSet ||| noticeBit (noticeIndex n) }
        ∧ (raiseNotice n s = t ∨ (lineRunning s.gov.line = true ∧ raiseNotice n s = enterHalted t)) := by
  unfold raiseNotice haltDemand
  dsimp only
  split
  · right
    refine ⟨_, rfl, ?_⟩
    split
    · split
      · rename_i h
        exact .inr ⟨by simpa using h, rfl⟩
      · exact .inl rfl
    · exact .inl rfl
  · exact .inl rfl

/-! ### Conversion -/

/-- The quantities that a conversion gives stand after it, whatever notices it raises. -/
theorem withQuantities_quantity (f : Fin 16 → Quantity × List Notice) (s : State) (q : Fin 16) :
    (withQuantities f s).converter.quantities[q] = (f q).1 := by
  simp [withQuantities]

/-! ### Reception -/

/-- With its silence deadline neither past nor passed by the reception, the part takes the frame as it stands (R6). -/
theorem atReception_in_time {rx : Reception} {s : State} (h : ∀ d, s.port.deadline = some d → s.timer + rx.elapsed ≤ d) :
    atReception rx s = takeIn rx s := by
  have : silenceOver (takeIn rx s) = false := by
    unfold silenceOver
    cases hd : s.port.deadline with
    | none => simp [takeIn, hd]
    | some d =>
      have := h d hd
      simp [takeIn, hd]
      intro _
      exact decide_eq_false (Nat.not_lt.2 this)
  simp [atReception, this]

/-! ### Track records -/

/-- A record written is read back. -/
theorem recordAt_setRecord_same (s : State) (i : Fin 64) (r : TrackRecord) : recordAt (setRecord s i r) i = r := by
  simp [recordAt, setRecord]

/-- Writing a record leaves every other as it was. -/
theorem recordAt_setRecord_other (s : State) (i j : Fin 64) (r : TrackRecord) (h : i ≠ j) :
    recordAt (setRecord s i r) j = recordAt s j := by
  simp only [recordAt, setRecord, State.withTrack_track, Fin.getElem_fin]
  exact Vector.getElem_set_ne _ _ fun e => h (Fin.ext e)

/-! ### Patterns in use -/

/-- The in-use test says what R50 says. -/
theorem patternInUse_iff (s : State) (p : Fin 48) : patternInUse s p = true ↔
    ((∃ c, s.seq.current = some c ∧ 0 < c.remaining ∧ c.run.pattern = p)
      ∨ (∃ r ∈ s.seq.queue, r.pattern = p)
      ∨ ∃ i ∈ s.track.runout ++ s.track.tunnel ++ s.track.exit,
          s.track.records[i].kind = some .panel ∧ s.track.records[i].pattern = some p) := by
  unfold patternInUse panelOfPattern liveRun recordAt
  rcases h : s.seq.current with _ | c
  · simp [or_and_right, exists_or]
  · by_cases hc : 0 < c.remaining <;> simp [hc, or_assoc, or_and_right, exists_or]

end Sys2Proof.Machine
end

