-- ==== Sys2Proof/Laws/Requests.lean ====
section
/-! SUPPORT. How a service request is carried out, and the small lemmas of operands, ranges and byte runs that every
statement about a request uses. -/

namespace Sys2Proof.Machine

/-! ### Served and passed -/

theorem portServes_iff (p : PortState) : portServes p = true ↔ p = .listen ∨ p = .active := by
  cases p <;> decide

/-- A request in LISTEN or ACTIVE is carried out and its reply stands. -/
theorem take_served {s : State} (h : portServes s.port.state = true) (request : State → State × Reply) :
    take request s = .next ((request s).1.withReply (some (request s).2)) := by
  simp [take, h]

/-- A request in any other port state passes untouched (R16). -/
theorem take_passes {s : State} (h : portServes s.port.state = false) (request : State → State × Reply) :
    take request s = .next (s.withReply none) := by
  simp [take, h]

/-- A service request is what the service handler makes of it. -/
theorem exec_request (i : Instr) (h : (Decode.requestBytes i).isSome = true) : exec i = take (serve i) := by
  cases i <;> first
    | rfl
    | (simp [Decode.requestBytes] at h)

/-- Every command answers a next state. -/
theorem exec_next (i : Instr) (s : State) : ∃ t, exec i s = .next t := by
  have ht : ∀ r, ∃ t, take r s = .next t := fun r => by
    cases h : portServes s.port.state
    · exact ⟨_, take_passes h r⟩
    · exact ⟨_, take_served h r⟩
  have hf : ∀ due rx, ∃ t, inFrame due rx s = .next t := fun due rx => by
    unfold inFrame
    dsimp only
    split <;> exact ⟨_, rfl⟩
  have hs : ∃ t, execSilenceTimeout s = .next t := by
    unfold execSilenceTimeout
    split
    · split <;> exact ⟨_, rfl⟩
    · exact ⟨_, rfl⟩
  cases i <;> first
    | exact ht _
    | exact hf _ _
    | exact hs
    | exact ⟨_, rfl⟩

/-- An event of a frame is the frame's reception, or nothing but the reply going. -/
theorem inFrame_cases (due : State → State → Bool) (rx : Reception) (s : State) :
    inFrame due rx s = .next (receive rx s) ∨ inFrame due rx s = .next (s.withReply none) := by
  unfold inFrame
  dsimp only
  split
  · exact .inl rfl
  · exact .inr rfl

/-! ### Replies -/

theorem refuse_fst (s : State) (st : Status) (v a b : Nat) : (refuse s st v a b).1 = s := rfl

theorem refuse_snd (s : State) (st : Status) (v a b : Nat) : (refuse s st v a b).2 =
    { status := st, payload := [BitVec.ofNat 8 v, BitVec.ofNat 8 a, BitVec.ofNat 8 b, 0] } := rfl

theorem okay_eq (p : List Byte) : okay p = { status := .ok, payload := p } := rfl

/-! ### Byte runs -/

theorem leBytes_one (n : Nat) : leBytes 1 n = [BitVec.ofNat 8 n] := rfl

theorem leBytes_two (n : Nat) : leBytes 2 n = [BitVec.ofNat 8 n, BitVec.ofNat 8 (n / 256)] := rfl

theorem leBytes_four (n : Nat) : leBytes 4 n =
    [BitVec.ofNat 8 n, BitVec.ofNat 8 (n / 256), BitVec.ofNat 8 (n / 65536), BitVec.ofNat 8 (n / 16777216)] := by
  simp [leBytes, Nat.div_div_eq_div_mul]

theorem leBytes_length (n v : Nat) : (leBytes n v).length = n := by
  induction n generalizing v with
  | zero => rfl
  | succ n ih => simp [leBytes, ih]

/-- A number read back from its bytes. -/
theorem leValue_leBytes (n v : Nat) : leValue (leBytes n v) = v % 256 ^ n := by
  induction n generalizing v with
  | zero => simp [leBytes, leValue, Nat.mod_one]
  | succ n ih => simp [leBytes, leValue, ih, pow_succ', Nat.mod_mul]

/-! ### Operands -/

theorem within_iff (lo hi n : Nat) : within lo hi n = true ↔ lo ≤ n ∧ n ≤ hi := by
  simp [within]

theorem index?_val {k : Nat} (i : Fin k) : index? k i.val = some i := by
  simp [index?]

theorem index?_lt {k n : Nat} (h : n < k) : index? k n = some ⟨n, h⟩ := by
  simp [index?, h]

theorem index?_none {k n : Nat} (h : k ≤ n) : index? k n = none := by
  simp [index?, h]

theorem ordinal?_succ {k : Nat} (i : Fin k) : ordinal? k (i.val + 1) = some i := by
  simp [ordinal?]

theorem ordinal?_none {k n : Nat} (h : n = 0 ∨ k < n) : ordinal? k n = none := by
  unfold ordinal?
  split
  · omega
  · rfl

theorem firstOfTwo_none {n : Nat} (h : 2 ≤ n) : firstOfTwo n = none := by
  obtain ⟨m, rfl⟩ : ∃ m, n = m + 2 := ⟨n - 2, by omega⟩
  rfl

theorem zeroOne_none {n : Nat} (h : 2 ≤ n) : zeroOne n = none := by
  obtain ⟨m, rfl⟩ : ∃ m, n = m + 2 := ⟨n - 2, by omega⟩
  rfl

theorem zeroOne_some {n : Nat} (h : n < 2) : zeroOne n = some (decide (n = 1)) := by
  interval_cases n <;> rfl

theorem firstOfTwo_some {n : Nat} (h : n < 2) : firstOfTwo n = some (decide (n = 0)) := by
  interval_cases n <;> rfl

theorem modeOf_none {n : Nat} (h : 3 ≤ n) : modeOf n = none := by
  obtain ⟨m, rfl⟩ : ∃ m, n = m + 3 := ⟨n - 3, by omega⟩
  rfl

theorem functionOf_none {n : Nat} (h : 14 ≤ n) : functionOf n = none := by
  obtain ⟨m, rfl⟩ : ∃ m, n = m + 14 := ⟨n - 14, by omega⟩
  rfl

theorem roleOf_none {n : Nat} (h : 3 ≤ n) : roleOf n = none := by
  obtain ⟨m, rfl⟩ : ∃ m, n = m + 3 := ⟨n - 3, by omega⟩
  rfl

theorem classOf_none {n : Nat} (h : 3 ≤ n) : classOf n = none := by
  obtain ⟨m, rfl⟩ : ∃ m, n = m + 3 := ⟨n - 3, by omega⟩
  rfl

theorem spindleOf_none {n : Nat} (h : 2 ≤ n) : spindleOf n = none := by
  obtain ⟨m, rfl⟩ : ∃ m, n = m + 2 := ⟨n - 2, by omega⟩
  rfl

theorem functionOf_functionCode (f : LineFunction) : functionOf (functionCode f) = some f := by
  cases f <;> rfl

theorem functionCode_inj {f g : LineFunction} : functionCode f = functionCode g ↔ f = g := by
  cases f <;> cases g <;> decide

theorem roleOf_roleCode (r : ZoneRole) : roleOf (roleCode r) = some r := by
  cases r <;> rfl

theorem classOf_classCode (c : NoticeClass) : classOf (classCode c) = some c := by
  cases c <;> rfl

/-- The first check that fails, as its position from 1. -/
theorem firstFailing_eq (l : List Bool) : firstFailing l = (l.findIdx? fun b => !b).map (· + 1) := by
  induction l with
  | nil => rfl
  | cons b l ih =>
    cases b
    · simp [firstFailing, List.findIdx?_cons]
    · simp [firstFailing, ih, List.findIdx?_cons]

/-- No check fails exactly when every check holds. -/
theorem firstFailing_none (l : List Bool) : firstFailing l = none ↔ ∀ b ∈ l, b = true := by
  induction l with
  | nil => simp [firstFailing]
  | cons b l ih => cases b <;> simp [firstFailing, ih]

end Sys2Proof.Machine
end

