-- ==== Sys2Proof/Laws/Settings.lean ====
section
/-! SUPPORT. What each shared operation leaves inside the blocks it touches: the settings that only requests and resets
write, and, where no record moves, the five lists. -/

namespace Sys2Proof.Machine

@[simp] theorem enterMatching_settings (ts : Timestamp) (r : RollChange) :
    (enterMatching ts r).settings = r.settings := rfl

@[simp] theorem settleSplice_settings (r : RollChange) : (settleSplice r).settings = r.settings := by
  unfold settleSplice
  split <;> rfl

@[simp] theorem setSpindle_settings (r : RollChange) (n : SpindleName) (x : Spindle) :
    (setSpindle r n x).settings = r.settings := by
  cases n <;> rfl

@[simp] theorem restIfIdle_settings (r : RollChange) : (restIfIdle r).settings = r.settings := by
  unfold restIfIdle
  split <;> rfl

@[simp] theorem setRecord_settings (s : State) (i : Fin 64) (r : TrackRecord) :
    (setRecord s i r).track.geometry = s.track.geometry ∧ (setRecord s i r).track.free = s.track.free
      ∧ (setRecord s i r).track.runout = s.track.runout ∧ (setRecord s i r).track.tunnel = s.track.tunnel
      ∧ (setRecord s i r).track.exit = s.track.exit ∧ (setRecord s i r).track.done = s.track.done := by simp [setRecord]

@[simp] theorem updateRecord_settings (s : State) (i : Fin 64) (f : TrackRecord → TrackRecord) :
    (updateRecord s i f).track.geometry = s.track.geometry
      ∧ (updateRecord s i f).track.free = s.track.free ∧ (updateRecord s i f).track.runout = s.track.runout
      ∧ (updateRecord s i f).track.tunnel = s.track.tunnel ∧ (updateRecord s i f).track.exit = s.track.exit
      ∧ (updateRecord s i f).track.done = s.track.done := by simp [updateRecord]

@[simp] theorem allocate_settings (s : State) (r : TrackRecord) :
    (allocate s r).seq.lowThreshold = s.seq.lowThreshold ∧ (allocate s r).seq.hold = s.seq.hold
      ∧ (allocate s r).track.geometry = s.track.geometry := by
  unfold allocate
  (repeat' (first | split | dsimp only)) <;> simp

@[simp] theorem openGap_settings (g : GapReason) (s : State) :
    (openGap g s).seq.lowThreshold = s.seq.lowThreshold ∧ (openGap g s).seq.hold = s.seq.hold
      ∧ (openGap g s).track.geometry = s.track.geometry := by
  unfold openGap
  (repeat' (first | split | dsimp only)) <;> simp

@[simp] theorem dropContext_settings (s : State) :
    (dropContext s).seq.lowThreshold = s.seq.lowThreshold ∧ (dropContext s).seq.hold = s.seq.hold := by
  unfold dropContext
  (repeat' (first | split | dsimp only)) <;> simp

@[simp] theorem haltFolds_settings (s : State) :
    (haltFolds s).seq.lowThreshold = s.seq.lowThreshold ∧ (haltFolds s).seq.hold = s.seq.hold := by
  unfold haltFolds
  (repeat' (first | split | dsimp only)) <;> simp

@[simp] theorem markSpliced_settings (s : State) (i : Fin 64) :
    (markSpliced s i).track.geometry = s.track.geometry ∧ (markSpliced s i).track.free = s.track.free
      ∧ (markSpliced s i).track.runout = s.track.runout ∧ (markSpliced s i).track.tunnel = s.track.tunnel
      ∧ (markSpliced s i).track.exit = s.track.exit ∧ (markSpliced s i).track.done = s.track.done := by
  unfold markSpliced
  (repeat' (first | split | dsimp only)) <;> simp

@[simp] theorem closeAgainstJoint_settings (s : State) (i : Fin 64) :
    (closeAgainstJoint s i).track.geometry = s.track.geometry
      ∧ (closeAgainstJoint s i).roll.settings = s.roll.settings
      ∧ (closeAgainstJoint s i).track.free = s.track.free
      ∧ (closeAgainstJoint s i).track.runout = s.track.runout
      ∧ (closeAgainstJoint s i).track.tunnel = s.track.tunnel
      ∧ (closeAgainstJoint s i).track.exit = s.track.exit
      ∧ (closeAgainstJoint s i).track.done = s.track.done := by
  unfold closeAgainstJoint
  (repeat' (first | split | dsimp only)) <;> simp

@[simp] theorem noOpenRecord_settings (s : State) :
    (noOpenRecord s).seq.lowThreshold = s.seq.lowThreshold ∧ (noOpenRecord s).seq.hold = s.seq.hold := by
  unfold noOpenRecord
  (repeat' (first | split | dsimp only)) <;> simp

@[simp] theorem closeFlat_settings (s : State) :
    (closeFlat s).seq.lowThreshold = s.seq.lowThreshold ∧ (closeFlat s).seq.hold = s.seq.hold
      ∧ (closeFlat s).track.geometry = s.track.geometry ∧ (closeFlat s).track.free = s.track.free
      ∧ (closeFlat s).track.runout = s.track.runout ∧ (closeFlat s).track.tunnel = s.track.tunnel
      ∧ (closeFlat s).track.exit = s.track.exit ∧ (closeFlat s).track.done = s.track.done := by
  unfold closeFlat
  (repeat' (first | split | dsimp only)) <;> simp

@[simp] theorem closeHalted_settings (s : State) :
    (closeHalted s).seq.lowThreshold = s.seq.lowThreshold ∧ (closeHalted s).seq.hold = s.seq.hold
      ∧ (closeHalted s).track.geometry = s.track.geometry ∧ (closeHalted s).roll.settings = s.roll.settings
      ∧ (closeHalted s).track.free = s.track.free ∧ (closeHalted s).track.runout = s.track.runout
      ∧ (closeHalted s).track.tunnel = s.track.tunnel ∧ (closeHalted s).track.exit = s.track.exit
      ∧ (closeHalted s).track.done = s.track.done := by
  unfold closeHalted
  (repeat' (first | split | dsimp only)) <;> simp

@[simp] theorem settleHalted_settings (s : State) :
    (settleHalted s).seq.lowThreshold = s.seq.lowThreshold ∧ (settleHalted s).seq.hold = s.seq.hold
      ∧ (settleHalted s).track.geometry = s.track.geometry
      ∧ (settleHalted s).roll.settings = s.roll.settings ∧ (settleHalted s).track.free = s.track.free
      ∧ (settleHalted s).track.runout = s.track.runout ∧ (settleHalted s).track.tunnel = s.track.tunnel
      ∧ (settleHalted s).track.exit = s.track.exit ∧ (settleHalted s).track.done = s.track.done := by
  unfold settleHalted
  (repeat' (first | split | dsimp only)) <;> simp

@[simp] theorem enterHalted_settings (s : State) :
    (enterHalted s).seq.lowThreshold = s.seq.lowThreshold ∧ (enterHalted s).seq.hold = s.seq.hold
      ∧ (enterHalted s).track.geometry = s.track.geometry ∧ (enterHalted s).gov.settings = s.gov.settings
      ∧ (enterHalted s).gov.vSet = s.gov.vSet ∧ (enterHalted s).roll.settings = s.roll.settings
      ∧ (enterHalted s).track.free = s.track.free ∧ (enterHalted s).track.runout = s.track.runout
      ∧ (enterHalted s).track.tunnel = s.track.tunnel ∧ (enterHalted s).track.exit = s.track.exit
      ∧ (enterHalted s).track.done = s.track.done := by
  unfold enterHalted
  (repeat' (first | split | dsimp only)) <;> simp

@[simp] theorem haltDemand_settings (s : State) :
    (haltDemand s).seq.lowThreshold = s.seq.lowThreshold ∧ (haltDemand s).seq.hold = s.seq.hold
      ∧ (haltDemand s).track.geometry = s.track.geometry ∧ (haltDemand s).gov.settings = s.gov.settings
      ∧ (haltDemand s).gov.vSet = s.gov.vSet ∧ (haltDemand s).roll.settings = s.roll.settings
      ∧ (haltDemand s).track.free = s.track.free ∧ (haltDemand s).track.runout = s.track.runout
      ∧ (haltDemand s).track.tunnel = s.track.tunnel ∧ (haltDemand s).track.exit = s.track.exit
      ∧ (haltDemand s).track.done = s.track.done := by
  unfold haltDemand
  (repeat' (first | split | dsimp only)) <;> simp

@[simp] theorem raiseNotice_settings (n : Notice) (s : State) :
    (raiseNotice n s).seq.lowThreshold = s.seq.lowThreshold ∧ (raiseNotice n s).seq.hold = s.seq.hold
      ∧ (raiseNotice n s).track.geometry = s.track.geometry
      ∧ (raiseNotice n s).gov.settings = s.gov.settings ∧ (raiseNotice n s).gov.vSet = s.gov.vSet
      ∧ (raiseNotice n s).roll.settings = s.roll.settings
      ∧ (raiseNotice n s).notices.routes = s.notices.routes
      ∧ (raiseNotice n s).notices.mask = s.notices.mask ∧ (raiseNotice n s).track.free = s.track.free
      ∧ (raiseNotice n s).track.runout = s.track.runout ∧ (raiseNotice n s).track.tunnel = s.track.tunnel
      ∧ (raiseNotice n s).track.exit = s.track.exit ∧ (raiseNotice n s).track.done = s.track.done := by
  unfold raiseNotice
  (repeat' (first | split | dsimp only)) <;> simp

@[simp] theorem raiseAll_settings (ns : List Notice) (s : State) :
    (raiseAll ns s).seq.lowThreshold = s.seq.lowThreshold ∧ (raiseAll ns s).seq.hold = s.seq.hold
      ∧ (raiseAll ns s).track.geometry = s.track.geometry ∧ (raiseAll ns s).gov.settings = s.gov.settings
      ∧ (raiseAll ns s).gov.vSet = s.gov.vSet ∧ (raiseAll ns s).roll.settings = s.roll.settings
      ∧ (raiseAll ns s).notices.routes = s.notices.routes ∧ (raiseAll ns s).notices.mask = s.notices.mask
      ∧ (raiseAll ns s).track.free = s.track.free ∧ (raiseAll ns s).track.runout = s.track.runout
      ∧ (raiseAll ns s).track.tunnel = s.track.tunnel ∧ (raiseAll ns s).track.exit = s.track.exit
      ∧ (raiseAll ns s).track.done = s.track.done := by
  induction ns generalizing s with
  | nil => simp [raiseAll]
  | cons a l ih =>
    unfold raiseAll
    (repeat' split) <;> simp [*]

@[simp] theorem raiseWhen_settings (c : Bool) (n : Notice) (s : State) :
    (raiseWhen c n s).seq.lowThreshold = s.seq.lowThreshold ∧ (raiseWhen c n s).seq.hold = s.seq.hold
      ∧ (raiseWhen c n s).track.geometry = s.track.geometry
      ∧ (raiseWhen c n s).gov.settings = s.gov.settings ∧ (raiseWhen c n s).gov.vSet = s.gov.vSet
      ∧ (raiseWhen c n s).roll.settings = s.roll.settings
      ∧ (raiseWhen c n s).notices.routes = s.notices.routes
      ∧ (raiseWhen c n s).notices.mask = s.notices.mask ∧ (raiseWhen c n s).track.free = s.track.free
      ∧ (raiseWhen c n s).track.runout = s.track.runout ∧ (raiseWhen c n s).track.tunnel = s.track.tunnel
      ∧ (raiseWhen c n s).track.exit = s.track.exit ∧ (raiseWhen c n s).track.done = s.track.done := by
  unfold raiseWhen
  (repeat' (first | split | dsimp only)) <;> simp

@[simp] theorem examineGood_settings (f : Frame) (s : State) :
    (examineGood f s).port.address = s.port.address
      ∧ (examineGood f s).port.readWindows = s.port.readWindows
      ∧ (examineGood f s).port.writeWindows = s.port.writeWindows ∧ (examineGood f s).port.map = s.port.map
      ∧ (examineGood f s).port.period = s.port.period
      ∧ (examineGood f s).port.slotLength = s.port.slotLength
      ∧ (examineGood f s).seq.lowThreshold = s.seq.lowThreshold ∧ (examineGood f s).seq.hold = s.seq.hold
      ∧ (examineGood f s).track.geometry = s.track.geometry
      ∧ (examineGood f s).gov.settings = s.gov.settings ∧ (examineGood f s).gov.vSet = s.gov.vSet
      ∧ (examineGood f s).roll.settings = s.roll.settings
      ∧ (examineGood f s).notices.routes = s.notices.routes
      ∧ (examineGood f s).notices.mask = s.notices.mask ∧ (examineGood f s).track.free = s.track.free
      ∧ (examineGood f s).track.runout = s.track.runout ∧ (examineGood f s).track.tunnel = s.track.tunnel
      ∧ (examineGood f s).track.exit = s.track.exit ∧ (examineGood f s).track.done = s.track.done := by
  unfold examineGood
  (repeat' (first | split | dsimp only)) <;> simp

@[simp] theorem enterListen_settings (s : State) :
    (enterListen s).port.address = s.port.address
      ∧ (enterListen s).port.readWindows = s.port.readWindows
      ∧ (enterListen s).port.writeWindows = s.port.writeWindows ∧ (enterListen s).port.map = s.port.map
      ∧ (enterListen s).port.period = s.port.period ∧ (enterListen s).port.slotLength = s.port.slotLength := by
  unfold enterListen
  (repeat' (first | split | dsimp only)) <;> simp

@[simp] theorem enterFault_settings (s : State) :
    (enterFault s).port.address = s.port.address ∧ (enterFault s).port.readWindows = s.port.readWindows
      ∧ (enterFault s).port.writeWindows = s.port.writeWindows ∧ (enterFault s).port.map = s.port.map
      ∧ (enterFault s).port.period = s.port.period ∧ (enterFault s).port.slotLength = s.port.slotLength
      ∧ (enterFault s).seq.lowThreshold = s.seq.lowThreshold ∧ (enterFault s).seq.hold = s.seq.hold
      ∧ (enterFault s).track.geometry = s.track.geometry ∧ (enterFault s).gov.settings = s.gov.settings
      ∧ (enterFault s).gov.vSet = s.gov.vSet ∧ (enterFault s).roll.settings = s.roll.settings
      ∧ (enterFault s).notices.routes = s.notices.routes ∧ (enterFault s).notices.mask = s.notices.mask
      ∧ (enterFault s).track.free = s.track.free ∧ (enterFault s).track.runout = s.track.runout
      ∧ (enterFault s).track.tunnel = s.track.tunnel ∧ (enterFault s).track.exit = s.track.exit
      ∧ (enterFault s).track.done = s.track.done := by
  unfold enterFault
  (repeat' (first | split | dsimp only)) <;> simp

@[simp] theorem expireSilence_settings (s : State) :
    (expireSilence s).port.address = s.port.address
      ∧ (expireSilence s).port.readWindows = s.port.readWindows
      ∧ (expireSilence s).port.writeWindows = s.port.writeWindows ∧ (expireSilence s).port.map = s.port.map
      ∧ (expireSilence s).port.period = s.port.period
      ∧ (expireSilence s).port.slotLength = s.port.slotLength
      ∧ (expireSilence s).seq.lowThreshold = s.seq.lowThreshold ∧ (expireSilence s).seq.hold = s.seq.hold
      ∧ (expireSilence s).track.geometry = s.track.geometry
      ∧ (expireSilence s).gov.settings = s.gov.settings ∧ (expireSilence s).gov.vSet = s.gov.vSet
      ∧ (expireSilence s).roll.settings = s.roll.settings
      ∧ (expireSilence s).notices.routes = s.notices.routes
      ∧ (expireSilence s).notices.mask = s.notices.mask ∧ (expireSilence s).track.free = s.track.free
      ∧ (expireSilence s).track.runout = s.track.runout ∧ (expireSilence s).track.tunnel = s.track.tunnel
      ∧ (expireSilence s).track.exit = s.track.exit ∧ (expireSilence s).track.done = s.track.done := by
  unfold expireSilence
  (repeat' (first | split | dsimp only)) <;> simp

@[simp] theorem enterSyncing_settings (s : State) :
    (enterSyncing s).port.address = s.port.address
      ∧ (enterSyncing s).port.readWindows = s.port.readWindows
      ∧ (enterSyncing s).port.writeWindows = s.port.writeWindows ∧ (enterSyncing s).port.map = s.port.map
      ∧ (enterSyncing s).port.period = s.port.period ∧ (enterSyncing s).port.slotLength = s.port.slotLength := by
  unfold enterSyncing
  (repeat' (first | split | dsimp only)) <;> simp

@[simp] theorem countBad_settings (c : ErrorCode) (s : State) :
    (countBad c s).port.address = s.port.address ∧ (countBad c s).port.readWindows = s.port.readWindows
      ∧ (countBad c s).port.writeWindows = s.port.writeWindows ∧ (countBad c s).port.map = s.port.map
      ∧ (countBad c s).port.period = s.port.period ∧ (countBad c s).port.slotLength = s.port.slotLength
      ∧ (countBad c s).seq.lowThreshold = s.seq.lowThreshold ∧ (countBad c s).seq.hold = s.seq.hold
      ∧ (countBad c s).track.geometry = s.track.geometry ∧ (countBad c s).gov.settings = s.gov.settings
      ∧ (countBad c s).gov.vSet = s.gov.vSet ∧ (countBad c s).roll.settings = s.roll.settings
      ∧ (countBad c s).notices.routes = s.notices.routes ∧ (countBad c s).notices.mask = s.notices.mask
      ∧ (countBad c s).track.free = s.track.free ∧ (countBad c s).track.runout = s.track.runout
      ∧ (countBad c s).track.tunnel = s.track.tunnel ∧ (countBad c s).track.exit = s.track.exit
      ∧ (countBad c s).track.done = s.track.done := by
  unfold countBad
  (repeat' (first | split | dsimp only)) <;> simp

@[simp] theorem countBadRun_settings (s : State) :
    (countBadRun s).port.address = s.port.address
      ∧ (countBadRun s).port.readWindows = s.port.readWindows
      ∧ (countBadRun s).port.writeWindows = s.port.writeWindows ∧ (countBadRun s).port.map = s.port.map
      ∧ (countBadRun s).port.period = s.port.period ∧ (countBadRun s).port.slotLength = s.port.slotLength
      ∧ (countBadRun s).seq.lowThreshold = s.seq.lowThreshold ∧ (countBadRun s).seq.hold = s.seq.hold
      ∧ (countBadRun s).track.geometry = s.track.geometry ∧ (countBadRun s).gov.settings = s.gov.settings
      ∧ (countBadRun s).gov.vSet = s.gov.vSet ∧ (countBadRun s).roll.settings = s.roll.settings
      ∧ (countBadRun s).notices.routes = s.notices.routes ∧ (countBadRun s).notices.mask = s.notices.mask
      ∧ (countBadRun s).track.free = s.track.free ∧ (countBadRun s).track.runout = s.track.runout
      ∧ (countBadRun s).track.tunnel = s.track.tunnel ∧ (countBadRun s).track.exit = s.track.exit
      ∧ (countBadRun s).track.done = s.track.done := by
  unfold countBadRun
  (repeat' (first | split | dsimp only)) <;> simp

@[simp] theorem countGood_settings (g : Option Nat) (s : State) :
    (countGood g s).port.address = s.port.address
      ∧ (countGood g s).port.readWindows = s.port.readWindows
      ∧ (countGood g s).port.writeWindows = s.port.writeWindows ∧ (countGood g s).port.map = s.port.map
      ∧ (countGood g s).port.period = s.port.period ∧ (countGood g s).port.slotLength = s.port.slotLength := by
  unfold countGood
  (repeat' (first | split | dsimp only)) <;> simp

@[simp] theorem countArrival_settings (s : State) :
    (countArrival s).port.address = s.port.address
      ∧ (countArrival s).port.readWindows = s.port.readWindows
      ∧ (countArrival s).port.writeWindows = s.port.writeWindows ∧ (countArrival s).port.map = s.port.map
      ∧ (countArrival s).port.period = s.port.period ∧ (countArrival s).port.slotLength = s.port.slotLength := by
  unfold countArrival
  (repeat' (first | split | dsimp only)) <;> simp

@[simp] theorem withQuantities_settings (f : Fin 16 → Quantity × List Notice) (s : State) :
    (withQuantities f s).converter.entries = s.converter.entries
      ∧ (withQuantities f s).seq.lowThreshold = s.seq.lowThreshold
      ∧ (withQuantities f s).seq.hold = s.seq.hold ∧ (withQuantities f s).track.geometry = s.track.geometry
      ∧ (withQuantities f s).gov.settings = s.gov.settings ∧ (withQuantities f s).gov.vSet = s.gov.vSet
      ∧ (withQuantities f s).roll.settings = s.roll.settings
      ∧ (withQuantities f s).notices.routes = s.notices.routes
      ∧ (withQuantities f s).notices.mask = s.notices.mask ∧ (withQuantities f s).track.free = s.track.free
      ∧ (withQuantities f s).track.runout = s.track.runout
      ∧ (withQuantities f s).track.tunnel = s.track.tunnel ∧ (withQuantities f s).track.exit = s.track.exit
      ∧ (withQuantities f s).track.done = s.track.done := by
  unfold withQuantities
  (repeat' (first | split | dsimp only)) <;> simp

@[simp] theorem convertArrival_settings (b : List Byte) (s : State) :
    (convertArrival b s).converter.entries = s.converter.entries
      ∧ (convertArrival b s).seq.lowThreshold = s.seq.lowThreshold
      ∧ (convertArrival b s).seq.hold = s.seq.hold ∧ (convertArrival b s).track.geometry = s.track.geometry
      ∧ (convertArrival b s).gov.settings = s.gov.settings ∧ (convertArrival b s).gov.vSet = s.gov.vSet
      ∧ (convertArrival b s).roll.settings = s.roll.settings
      ∧ (convertArrival b s).notices.routes = s.notices.routes
      ∧ (convertArrival b s).notices.mask = s.notices.mask ∧ (convertArrival b s).track.free = s.track.free
      ∧ (convertArrival b s).track.runout = s.track.runout
      ∧ (convertArrival b s).track.tunnel = s.track.tunnel ∧ (convertArrival b s).track.exit = s.track.exit
      ∧ (convertArrival b s).track.done = s.track.done := by
  unfold convertArrival
  (repeat' (first | split | dsimp only)) <;> simp

@[simp] theorem ageAll_settings (s : State) :
    (ageAll s).converter.entries = s.converter.entries
      ∧ (ageAll s).seq.lowThreshold = s.seq.lowThreshold ∧ (ageAll s).seq.hold = s.seq.hold
      ∧ (ageAll s).track.geometry = s.track.geometry ∧ (ageAll s).gov.settings = s.gov.settings
      ∧ (ageAll s).gov.vSet = s.gov.vSet ∧ (ageAll s).roll.settings = s.roll.settings
      ∧ (ageAll s).notices.routes = s.notices.routes ∧ (ageAll s).notices.mask = s.notices.mask
      ∧ (ageAll s).track.free = s.track.free ∧ (ageAll s).track.runout = s.track.runout
      ∧ (ageAll s).track.tunnel = s.track.tunnel ∧ (ageAll s).track.exit = s.track.exit
      ∧ (ageAll s).track.done = s.track.done := by
  unfold ageAll
  (repeat' (first | split | dsimp only)) <;> simp

@[simp] theorem latchLines_settings (s : State) :
    (latchLines s).lines.lines = s.lines.lines := by
  unfold latchLines
  (repeat' (first | split | dsimp only)) <;> simp

@[simp] theorem doorTest_settings (s : State) :
    (doorTest s).lines.lines = s.lines.lines ∧ (doorTest s).seq.lowThreshold = s.seq.lowThreshold
      ∧ (doorTest s).seq.hold = s.seq.hold ∧ (doorTest s).track.geometry = s.track.geometry
      ∧ (doorTest s).gov.settings = s.gov.settings ∧ (doorTest s).gov.vSet = s.gov.vSet
      ∧ (doorTest s).roll.settings = s.roll.settings ∧ (doorTest s).notices.routes = s.notices.routes
      ∧ (doorTest s).notices.mask = s.notices.mask ∧ (doorTest s).track.free = s.track.free
      ∧ (doorTest s).track.runout = s.track.runout ∧ (doorTest s).track.tunnel = s.track.tunnel
      ∧ (doorTest s).track.exit = s.track.exit ∧ (doorTest s).track.done = s.track.done := by
  unfold doorTest
  (repeat' (first | split | dsimp only)) <;> simp

@[simp] theorem issueOne_settings (s : State) :
    (issueOne s).seq.lowThreshold = s.seq.lowThreshold ∧ (issueOne s).seq.hold = s.seq.hold := by
  unfold issueOne
  (repeat' (first | split | dsimp only)) <;> simp

@[simp] theorem issueRequests_settings (s : State) :
    (issueRequests s).seq.lowThreshold = s.seq.lowThreshold ∧ (issueRequests s).seq.hold = s.seq.hold := by
  unfold issueRequests
  (repeat' (first | split | dsimp only)) <;> simp

@[simp] theorem completeRequest_settings (s : State) :
    (completeRequest s).seq.lowThreshold = s.seq.lowThreshold
      ∧ (completeRequest s).seq.hold = s.seq.hold := by
  unfold completeRequest
  (repeat' (first | split | dsimp only)) <;> simp

@[simp] theorem passEntry_settings (e : StrokeEntry) (rest : List StrokeEntry) (s : State) :
    (passEntry e rest s).seq.lowThreshold = s.seq.lowThreshold
      ∧ (passEntry e rest s).seq.hold = s.seq.hold ∧ (passEntry e rest s).track.geometry = s.track.geometry
      ∧ (passEntry e rest s).gov.settings = s.gov.settings ∧ (passEntry e rest s).gov.vSet = s.gov.vSet
      ∧ (passEntry e rest s).roll.settings = s.roll.settings
      ∧ (passEntry e rest s).notices.routes = s.notices.routes
      ∧ (passEntry e rest s).notices.mask = s.notices.mask ∧ (passEntry e rest s).track.free = s.track.free
      ∧ (passEntry e rest s).track.runout = s.track.runout
      ∧ (passEntry e rest s).track.tunnel = s.track.tunnel ∧ (passEntry e rest s).track.exit = s.track.exit
      ∧ (passEntry e rest s).track.done = s.track.done := by
  unfold passEntry
  (repeat' (first | split | dsimp only)) <;> simp

@[simp] theorem passing_settings (n : Nat) (s : State) :
    (passing n s).seq.lowThreshold = s.seq.lowThreshold ∧ (passing n s).seq.hold = s.seq.hold
      ∧ (passing n s).track.geometry = s.track.geometry ∧ (passing n s).gov.settings = s.gov.settings
      ∧ (passing n s).gov.vSet = s.gov.vSet ∧ (passing n s).roll.settings = s.roll.settings
      ∧ (passing n s).notices.routes = s.notices.routes ∧ (passing n s).notices.mask = s.notices.mask
      ∧ (passing n s).track.free = s.track.free ∧ (passing n s).track.runout = s.track.runout
      ∧ (passing n s).track.tunnel = s.track.tunnel ∧ (passing n s).track.exit = s.track.exit
      ∧ (passing n s).track.done = s.track.done := by
  induction n generalizing s with
  | zero => simp [passing]
  | succ n ih =>
    unfold passing
    (repeat' split) <;> simp [*]

@[simp] theorem foldWork_settings (s : State) :
    (foldWork s).seq.lowThreshold = s.seq.lowThreshold ∧ (foldWork s).seq.hold = s.seq.hold
      ∧ (foldWork s).track.geometry = s.track.geometry ∧ (foldWork s).gov.settings = s.gov.settings
      ∧ (foldWork s).gov.vSet = s.gov.vSet ∧ (foldWork s).roll.settings = s.roll.settings
      ∧ (foldWork s).notices.routes = s.notices.routes ∧ (foldWork s).notices.mask = s.notices.mask
      ∧ (foldWork s).track.free = s.track.free ∧ (foldWork s).track.runout = s.track.runout
      ∧ (foldWork s).track.tunnel = s.track.tunnel ∧ (foldWork s).track.exit = s.track.exit
      ∧ (foldWork s).track.done = s.track.done := by
  unfold foldWork
  (repeat' (first | split | dsimp only)) <;> simp

@[simp] theorem takeRun_settings (s : State) :
    (takeRun s).1.seq.lowThreshold = s.seq.lowThreshold ∧ (takeRun s).1.seq.hold = s.seq.hold := by
  unfold takeRun
  (repeat' (first | split | dsimp only)) <;> simp

@[simp] theorem panelDecision_settings (s : State) :
    (panelDecision s).1.seq.lowThreshold = s.seq.lowThreshold
      ∧ (panelDecision s).1.seq.hold = s.seq.hold := by
  unfold panelDecision
  (repeat' (first | split | dsimp only)) <;> simp

@[simp] theorem openPanel_settings (s : State) :
    (openPanel s).1.seq.lowThreshold = s.seq.lowThreshold ∧ (openPanel s).1.seq.hold = s.seq.hold
      ∧ (openPanel s).1.track.geometry = s.track.geometry := by
  unfold openPanel
  (repeat' (first | split | dsimp only)) <;> simp

@[simp] theorem openSplice_settings (ts : Timestamp) (s : State) :
    (openSplice ts s).seq.lowThreshold = s.seq.lowThreshold ∧ (openSplice ts s).seq.hold = s.seq.hold
      ∧ (openSplice ts s).track.geometry = s.track.geometry
      ∧ (openSplice ts s).roll.settings = s.roll.settings := by
  unfold openSplice
  (repeat' (first | split | dsimp only)) <;> simp

@[simp] theorem openOutcome_settings (ts : Timestamp) (o : DecisionOutcome) (s : State) :
    (openOutcome ts o s).1.seq.lowThreshold = s.seq.lowThreshold
      ∧ (openOutcome ts o s).1.seq.hold = s.seq.hold
      ∧ (openOutcome ts o s).1.track.geometry = s.track.geometry
      ∧ (openOutcome ts o s).1.roll.settings = s.roll.settings := by
  unfold openOutcome
  (repeat' (first | split | dsimp only)) <;> simp

@[simp] theorem setGapReason_settings (g : GapReason) (s : State) :
    (setGapReason g s).track.geometry = s.track.geometry ∧ (setGapReason g s).track.free = s.track.free
      ∧ (setGapReason g s).track.runout = s.track.runout ∧ (setGapReason g s).track.tunnel = s.track.tunnel
      ∧ (setGapReason g s).track.exit = s.track.exit ∧ (setGapReason g s).track.done = s.track.done := by
  unfold setGapReason
  (repeat' (first | split | dsimp only)) <;> simp

@[simp] theorem applyToGap_settings (ts : Timestamp) (o : DecisionOutcome) (s : State) :
    (applyToGap ts o s).1.seq.lowThreshold = s.seq.lowThreshold
      ∧ (applyToGap ts o s).1.seq.hold = s.seq.hold
      ∧ (applyToGap ts o s).1.track.geometry = s.track.geometry
      ∧ (applyToGap ts o s).1.roll.settings = s.roll.settings := by
  unfold applyToGap
  (repeat' (first | split | dsimp only)) <;> simp

@[simp] theorem decideAfterClosing_settings (ts : Timestamp) (s : State) :
    (decideAfterClosing ts s).1.seq.lowThreshold = s.seq.lowThreshold
      ∧ (decideAfterClosing ts s).1.seq.hold = s.seq.hold
      ∧ (decideAfterClosing ts s).1.track.geometry = s.track.geometry
      ∧ (decideAfterClosing ts s).1.roll.settings = s.roll.settings := by
  unfold decideAfterClosing
  (repeat' (first | split | dsimp only)) <;> simp

@[simp] theorem raiseWhileRunning_settings (ns : List Notice) (s : State) :
    (raiseWhileRunning ns s).seq.lowThreshold = s.seq.lowThreshold
      ∧ (raiseWhileRunning ns s).seq.hold = s.seq.hold
      ∧ (raiseWhileRunning ns s).track.geometry = s.track.geometry
      ∧ (raiseWhileRunning ns s).gov.settings = s.gov.settings
      ∧ (raiseWhileRunning ns s).gov.vSet = s.gov.vSet
      ∧ (raiseWhileRunning ns s).roll.settings = s.roll.settings
      ∧ (raiseWhileRunning ns s).notices.routes = s.notices.routes
      ∧ (raiseWhileRunning ns s).notices.mask = s.notices.mask
      ∧ (raiseWhileRunning ns s).track.free = s.track.free
      ∧ (raiseWhileRunning ns s).track.runout = s.track.runout
      ∧ (raiseWhileRunning ns s).track.tunnel = s.track.tunnel
      ∧ (raiseWhileRunning ns s).track.exit = s.track.exit
      ∧ (raiseWhileRunning ns s).track.done = s.track.done := by
  induction ns generalizing s with
  | nil => simp [raiseWhileRunning]
  | cons a l ih =>
    unfold raiseWhileRunning
    (repeat' split) <;> simp [*]

@[simp] theorem settleGap_settings (ts : Timestamp) (o : DecisionOutcome) (s : State) :
    (settleGap ts o s).seq.lowThreshold = s.seq.lowThreshold ∧ (settleGap ts o s).seq.hold = s.seq.hold
      ∧ (settleGap ts o s).track.geometry = s.track.geometry
      ∧ (settleGap ts o s).gov.settings = s.gov.settings ∧ (settleGap ts o s).gov.vSet = s.gov.vSet
      ∧ (settleGap ts o s).roll.settings = s.roll.settings
      ∧ (settleGap ts o s).notices.routes = s.notices.routes
      ∧ (settleGap ts o s).notices.mask = s.notices.mask := by
  unfold settleGap
  (repeat' (first | split | dsimp only)) <;> simp

@[simp] theorem decideForGap_settings (ts : Timestamp) (s : State) :
    (decideForGap ts s).seq.lowThreshold = s.seq.lowThreshold
      ∧ (decideForGap ts s).seq.hold = s.seq.hold ∧ (decideForGap ts s).track.geometry = s.track.geometry
      ∧ (decideForGap ts s).gov.settings = s.gov.settings ∧ (decideForGap ts s).gov.vSet = s.gov.vSet
      ∧ (decideForGap ts s).roll.settings = s.roll.settings
      ∧ (decideForGap ts s).notices.routes = s.notices.routes
      ∧ (decideForGap ts s).notices.mask = s.notices.mask := by
  unfold decideForGap
  (repeat' (first | split | dsimp only)) <;> simp

@[simp] theorem closePanel_settings (i : Fin 64) (s : State) :
    (closePanel i s).1.seq.lowThreshold = s.seq.lowThreshold ∧ (closePanel i s).1.seq.hold = s.seq.hold
      ∧ (closePanel i s).1.track.geometry = s.track.geometry
      ∧ (closePanel i s).1.gov.settings = s.gov.settings ∧ (closePanel i s).1.gov.vSet = s.gov.vSet
      ∧ (closePanel i s).1.roll.settings = s.roll.settings ∧ (closePanel i s).1.track.free = s.track.free
      ∧ (closePanel i s).1.track.runout = s.track.runout ∧ (closePanel i s).1.track.tunnel = s.track.tunnel
      ∧ (closePanel i s).1.track.exit = s.track.exit ∧ (closePanel i s).1.track.done = s.track.done := by
  unfold closePanel
  (repeat' (first | split | dsimp only)) <;> simp

@[simp] theorem sequencerOn_settings (ts : Timestamp) (i : Fin 64) (s : State) :
    (sequencerOn ts i s).1.seq.lowThreshold = s.seq.lowThreshold
      ∧ (sequencerOn ts i s).1.seq.hold = s.seq.hold
      ∧ (sequencerOn ts i s).1.track.geometry = s.track.geometry
      ∧ (sequencerOn ts i s).1.gov.settings = s.gov.settings ∧ (sequencerOn ts i s).1.gov.vSet = s.gov.vSet
      ∧ (sequencerOn ts i s).1.roll.settings = s.roll.settings
      ∧ (sequencerOn ts i s).1.notices.routes = s.notices.routes
      ∧ (sequencerOn ts i s).1.notices.mask = s.notices.mask := by
  unfold sequencerOn
  (repeat' (first | split | dsimp only)) <;> simp

@[simp] theorem sequencerOutcome_settings (ts : Timestamp) (s : State) :
    (sequencerOutcome ts s).1.seq.lowThreshold = s.seq.lowThreshold
      ∧ (sequencerOutcome ts s).1.seq.hold = s.seq.hold ∧ (sequencerOutcome ts s).1.track.geometry = s.track.geometry
      ∧ (sequencerOutcome ts s).1.gov.settings = s.gov.settings ∧ (sequencerOutcome ts s).1.gov.vSet = s.gov.vSet
      ∧ (sequencerOutcome ts s).1.roll.settings = s.roll.settings
      ∧ (sequencerOutcome ts s).1.notices.routes = s.notices.routes
      ∧ (sequencerOutcome ts s).1.notices.mask = s.notices.mask := by
  unfold sequencerOutcome
  (repeat' (first | split | dsimp only)) <;> simp

@[simp] theorem sequencerWork_settings (ts : Timestamp) (s : State) :
    (sequencerWork ts s).seq.lowThreshold = s.seq.lowThreshold
      ∧ (sequencerWork ts s).seq.hold = s.seq.hold ∧ (sequencerWork ts s).track.geometry = s.track.geometry
      ∧ (sequencerWork ts s).gov.settings = s.gov.settings ∧ (sequencerWork ts s).gov.vSet = s.gov.vSet
      ∧ (sequencerWork ts s).roll.settings = s.roll.settings
      ∧ (sequencerWork ts s).notices.routes = s.notices.routes
      ∧ (sequencerWork ts s).notices.mask = s.notices.mask := by
  unfold sequencerWork
  (repeat' (first | split | dsimp only)) <;> simp

@[simp] theorem enterTunnel_settings (i : Fin 64) (rest : List (Fin 64)) (s : State) :
    (enterTunnel i rest s).track.geometry = s.track.geometry
      ∧ (enterTunnel i rest s).tunnel.pressureMin = s.tunnel.pressureMin := by
  unfold enterTunnel
  (repeat' (first | split | dsimp only)) <;> simp

@[simp] theorem entryMoves_settings (n : Nat) (s : State) :
    (entryMoves n s).track.geometry = s.track.geometry
      ∧ (entryMoves n s).tunnel.pressureMin = s.tunnel.pressureMin := by
  induction n generalizing s with
  | zero => simp [entryMoves]
  | succ n ih =>
    unfold entryMoves
    (repeat' split) <;> simp [*]

@[simp] theorem entryWork_settings (s : State) :
    (entryWork s).track.geometry = s.track.geometry
      ∧ (entryWork s).tunnel.pressureMin = s.tunnel.pressureMin := by
  unfold entryWork
  (repeat' (first | split | dsimp only)) <;> simp

@[simp] theorem setZone_settings (s : State) (z : Fin 6) (x : Zone) :
    (setZone s z x).tunnel.pressureMin = s.tunnel.pressureMin := by
  unfold setZone
  (repeat' (first | split | dsimp only)) <;> simp

@[simp] theorem updateZones_settings (zs : List (Fin 6)) (s : State) :
    (updateZones zs s).seq.lowThreshold = s.seq.lowThreshold ∧ (updateZones zs s).seq.hold = s.seq.hold
      ∧ (updateZones zs s).track.geometry = s.track.geometry
      ∧ (updateZones zs s).gov.settings = s.gov.settings ∧ (updateZones zs s).gov.vSet = s.gov.vSet
      ∧ (updateZones zs s).tunnel.pressureMin = s.tunnel.pressureMin
      ∧ (updateZones zs s).roll.settings = s.roll.settings
      ∧ (updateZones zs s).notices.routes = s.notices.routes
      ∧ (updateZones zs s).notices.mask = s.notices.mask ∧ (updateZones zs s).track.free = s.track.free
      ∧ (updateZones zs s).track.runout = s.track.runout ∧ (updateZones zs s).track.tunnel = s.track.tunnel
      ∧ (updateZones zs s).track.exit = s.track.exit ∧ (updateZones zs s).track.done = s.track.done := by
  induction zs generalizing s with
  | nil => simp [updateZones]
  | cons a l ih =>
    unfold updateZones
    (repeat' split) <;> simp [*]

@[simp] theorem pressureTest_settings (s : State) :
    (pressureTest s).seq.lowThreshold = s.seq.lowThreshold ∧ (pressureTest s).seq.hold = s.seq.hold
      ∧ (pressureTest s).track.geometry = s.track.geometry ∧ (pressureTest s).gov.settings = s.gov.settings
      ∧ (pressureTest s).gov.vSet = s.gov.vSet ∧ (pressureTest s).tunnel.pressureMin = s.tunnel.pressureMin
      ∧ (pressureTest s).roll.settings = s.roll.settings
      ∧ (pressureTest s).notices.routes = s.notices.routes ∧ (pressureTest s).notices.mask = s.notices.mask
      ∧ (pressureTest s).track.free = s.track.free ∧ (pressureTest s).track.runout = s.track.runout
      ∧ (pressureTest s).track.tunnel = s.track.tunnel ∧ (pressureTest s).track.exit = s.track.exit
      ∧ (pressureTest s).track.done = s.track.done := by
  unfold pressureTest
  (repeat' (first | split | dsimp only)) <;> simp

/-- An ACTIVE arrival's valves leave no RESET RUN to be noted (R159). -/
@[simp] theorem regulateValves_restarted (s : State) : (regulateValves s).tunnel.restarted = false := rfl

/-- Each valve of an ACTIVE arrival is the first case that applies to its zone (R148 to R150, R159). -/
theorem regulateValves_zone (s : State) (z : Fin 6) :
    (regulateValves s).tunnel.zones[z] =
      valveOf s.tunnel.restarted (doorReadsOpen s) s.tunnel.pressureHold (quantityNat s (zoneQuantity z))
        s.tunnel.zones[z] := by
  simp [regulateValves]

@[simp] theorem regulateValves_settings (s : State) :
    (regulateValves s).tunnel.pressureMin = s.tunnel.pressureMin := by
  unfold regulateValves
  (repeat' (first | split | dsimp only)) <;> simp

@[simp] theorem tunnelRegulation_settings (s : State) :
    (tunnelRegulation s).seq.lowThreshold = s.seq.lowThreshold
      ∧ (tunnelRegulation s).seq.hold = s.seq.hold ∧ (tunnelRegulation s).track.geometry = s.track.geometry
      ∧ (tunnelRegulation s).gov.settings = s.gov.settings ∧ (tunnelRegulation s).gov.vSet = s.gov.vSet
      ∧ (tunnelRegulation s).tunnel.pressureMin = s.tunnel.pressureMin
      ∧ (tunnelRegulation s).roll.settings = s.roll.settings
      ∧ (tunnelRegulation s).notices.routes = s.notices.routes
      ∧ (tunnelRegulation s).notices.mask = s.notices.mask ∧ (tunnelRegulation s).track.free = s.track.free
      ∧ (tunnelRegulation s).track.runout = s.track.runout
      ∧ (tunnelRegulation s).track.tunnel = s.track.tunnel ∧ (tunnelRegulation s).track.exit = s.track.exit
      ∧ (tunnelRegulation s).track.done = s.track.done := by
  unfold tunnelRegulation
  (repeat' (first | split | dsimp only)) <;> simp

@[simp] theorem addExposure_settings (n : Nat) (i : Fin 64) (s : State) :
    (addExposure n i s).seq.lowThreshold = s.seq.lowThreshold
      ∧ (addExposure n i s).seq.hold = s.seq.hold ∧ (addExposure n i s).track.geometry = s.track.geometry
      ∧ (addExposure n i s).gov.settings = s.gov.settings ∧ (addExposure n i s).gov.vSet = s.gov.vSet
      ∧ (addExposure n i s).tunnel.pressureMin = s.tunnel.pressureMin
      ∧ (addExposure n i s).roll.settings = s.roll.settings
      ∧ (addExposure n i s).notices.routes = s.notices.routes
      ∧ (addExposure n i s).notices.mask = s.notices.mask ∧ (addExposure n i s).track.free = s.track.free
      ∧ (addExposure n i s).track.runout = s.track.runout
      ∧ (addExposure n i s).track.tunnel = s.track.tunnel ∧ (addExposure n i s).track.exit = s.track.exit
      ∧ (addExposure n i s).track.done = s.track.done := by
  unfold addExposure
  (repeat' (first | split | dsimp only)) <;> simp

@[simp] theorem accountRecord_settings (n : Nat) (i : Fin 64) (s : State) :
    (accountRecord n i s).seq.lowThreshold = s.seq.lowThreshold
      ∧ (accountRecord n i s).seq.hold = s.seq.hold
      ∧ (accountRecord n i s).track.geometry = s.track.geometry
      ∧ (accountRecord n i s).gov.settings = s.gov.settings ∧ (accountRecord n i s).gov.vSet = s.gov.vSet
      ∧ (accountRecord n i s).tunnel.pressureMin = s.tunnel.pressureMin
      ∧ (accountRecord n i s).roll.settings = s.roll.settings
      ∧ (accountRecord n i s).notices.routes = s.notices.routes
      ∧ (accountRecord n i s).notices.mask = s.notices.mask
      ∧ (accountRecord n i s).track.free = s.track.free
      ∧ (accountRecord n i s).track.runout = s.track.runout
      ∧ (accountRecord n i s).track.tunnel = s.track.tunnel
      ∧ (accountRecord n i s).track.exit = s.track.exit ∧ (accountRecord n i s).track.done = s.track.done := by
  unfold accountRecord
  (repeat' (first | split | dsimp only)) <;> simp

@[simp] theorem accountAll_settings (n : Nat) (l : List (Fin 64)) (s : State) :
    (accountAll n l s).seq.lowThreshold = s.seq.lowThreshold ∧ (accountAll n l s).seq.hold = s.seq.hold
      ∧ (accountAll n l s).track.geometry = s.track.geometry
      ∧ (accountAll n l s).gov.settings = s.gov.settings ∧ (accountAll n l s).gov.vSet = s.gov.vSet
      ∧ (accountAll n l s).tunnel.pressureMin = s.tunnel.pressureMin
      ∧ (accountAll n l s).roll.settings = s.roll.settings
      ∧ (accountAll n l s).notices.routes = s.notices.routes
      ∧ (accountAll n l s).notices.mask = s.notices.mask ∧ (accountAll n l s).track.free = s.track.free
      ∧ (accountAll n l s).track.runout = s.track.runout ∧ (accountAll n l s).track.tunnel = s.track.tunnel
      ∧ (accountAll n l s).track.exit = s.track.exit ∧ (accountAll n l s).track.done = s.track.done := by
  induction l generalizing s with
  | nil => simp [accountAll]
  | cons a l ih =>
    unfold accountAll
    (repeat' split) <;> simp [*]

@[simp] theorem tunnelAccounting_settings (n : Nat) (s : State) :
    (tunnelAccounting n s).seq.lowThreshold = s.seq.lowThreshold
      ∧ (tunnelAccounting n s).seq.hold = s.seq.hold
      ∧ (tunnelAccounting n s).track.geometry = s.track.geometry
      ∧ (tunnelAccounting n s).gov.settings = s.gov.settings ∧ (tunnelAccounting n s).gov.vSet = s.gov.vSet
      ∧ (tunnelAccounting n s).tunnel.pressureMin = s.tunnel.pressureMin
      ∧ (tunnelAccounting n s).roll.settings = s.roll.settings
      ∧ (tunnelAccounting n s).notices.routes = s.notices.routes
      ∧ (tunnelAccounting n s).notices.mask = s.notices.mask
      ∧ (tunnelAccounting n s).track.free = s.track.free
      ∧ (tunnelAccounting n s).track.runout = s.track.runout
      ∧ (tunnelAccounting n s).track.tunnel = s.track.tunnel
      ∧ (tunnelAccounting n s).track.exit = s.track.exit ∧ (tunnelAccounting n s).track.done = s.track.done := by
  unfold tunnelAccounting
  (repeat' (first | split | dsimp only)) <;> simp

@[simp] theorem stampRecord_settings (ts : Timestamp) (i : Fin 64) (s : State) :
    (stampRecord ts i s).track.geometry = s.track.geometry
      ∧ (stampRecord ts i s).track.free = s.track.free ∧ (stampRecord ts i s).track.runout = s.track.runout
      ∧ (stampRecord ts i s).track.tunnel = s.track.tunnel ∧ (stampRecord ts i s).track.exit = s.track.exit
      ∧ (stampRecord ts i s).track.done = s.track.done := by
  unfold stampRecord
  (repeat' (first | split | dsimp only)) <;> simp

@[simp] theorem stampAll_settings (ts : Timestamp) (l : List (Fin 64)) (s : State) :
    (stampAll ts l s).track.geometry = s.track.geometry ∧ (stampAll ts l s).track.free = s.track.free
      ∧ (stampAll ts l s).track.runout = s.track.runout ∧ (stampAll ts l s).track.tunnel = s.track.tunnel
      ∧ (stampAll ts l s).track.exit = s.track.exit ∧ (stampAll ts l s).track.done = s.track.done := by
  induction l generalizing s with
  | nil => simp [stampAll]
  | cons a l ih =>
    unfold stampAll
    (repeat' split) <;> simp [*]

@[simp] theorem transitWork_settings (ts : Timestamp) (s : State) :
    (transitWork ts s).track.geometry = s.track.geometry ∧ (transitWork ts s).track.free = s.track.free
      ∧ (transitWork ts s).track.runout = s.track.runout ∧ (transitWork ts s).track.tunnel = s.track.tunnel
      ∧ (transitWork ts s).track.exit = s.track.exit ∧ (transitWork ts s).track.done = s.track.done := by
  unfold transitWork
  (repeat' (first | split | dsimp only)) <;> simp

@[simp] theorem dwellChecks_settings (i : Fin 64) (s : State) :
    (dwellChecks i s).seq.lowThreshold = s.seq.lowThreshold ∧ (dwellChecks i s).seq.hold = s.seq.hold
      ∧ (dwellChecks i s).track.geometry = s.track.geometry
      ∧ (dwellChecks i s).gov.settings = s.gov.settings ∧ (dwellChecks i s).gov.vSet = s.gov.vSet
      ∧ (dwellChecks i s).roll.settings = s.roll.settings
      ∧ (dwellChecks i s).notices.routes = s.notices.routes
      ∧ (dwellChecks i s).notices.mask = s.notices.mask ∧ (dwellChecks i s).track.free = s.track.free
      ∧ (dwellChecks i s).track.runout = s.track.runout ∧ (dwellChecks i s).track.tunnel = s.track.tunnel
      ∧ (dwellChecks i s).track.exit = s.track.exit ∧ (dwellChecks i s).track.done = s.track.done := by
  unfold dwellChecks
  (repeat' (first | split | dsimp only)) <;> simp

@[simp] theorem measureRolls_settings (s : State) :
    (measureRolls s).roll.settings = s.roll.settings := by
  unfold measureRolls
  (repeat' (first | split | dsimp only)) <;> simp

@[simp] theorem runoutTest_settings (s : State) :
    (runoutTest s).seq.lowThreshold = s.seq.lowThreshold ∧ (runoutTest s).seq.hold = s.seq.hold
      ∧ (runoutTest s).track.geometry = s.track.geometry ∧ (runoutTest s).gov.settings = s.gov.settings
      ∧ (runoutTest s).gov.vSet = s.gov.vSet ∧ (runoutTest s).roll.settings = s.roll.settings
      ∧ (runoutTest s).notices.routes = s.notices.routes ∧ (runoutTest s).notices.mask = s.notices.mask
      ∧ (runoutTest s).track.free = s.track.free ∧ (runoutTest s).track.runout = s.track.runout
      ∧ (runoutTest s).track.tunnel = s.track.tunnel ∧ (runoutTest s).track.exit = s.track.exit
      ∧ (runoutTest s).track.done = s.track.done := by
  unfold runoutTest
  (repeat' (first | split | dsimp only)) <;> simp

@[simp] theorem freeExpired_settings (n : SpindleName) (s : State) :
    (freeExpired n s).roll.settings = s.roll.settings := by
  unfold freeExpired
  (repeat' (first | split | dsimp only)) <;> simp

@[simp] theorem failMatch_settings (s : State) :
    (failMatch s).seq.lowThreshold = s.seq.lowThreshold ∧ (failMatch s).seq.hold = s.seq.hold
      ∧ (failMatch s).track.geometry = s.track.geometry ∧ (failMatch s).gov.settings = s.gov.settings
      ∧ (failMatch s).gov.vSet = s.gov.vSet ∧ (failMatch s).roll.settings = s.roll.settings
      ∧ (failMatch s).notices.routes = s.notices.routes ∧ (failMatch s).notices.mask = s.notices.mask
      ∧ (failMatch s).track.free = s.track.free ∧ (failMatch s).track.runout = s.track.runout
      ∧ (failMatch s).track.tunnel = s.track.tunnel ∧ (failMatch s).track.exit = s.track.exit
      ∧ (failMatch s).track.done = s.track.done := by
  unfold failMatch
  (repeat' (first | split | dsimp only)) <;> simp

@[simp] theorem matchingWork_settings (ts : Timestamp) (s : State) :
    (matchingWork ts s).seq.lowThreshold = s.seq.lowThreshold
      ∧ (matchingWork ts s).seq.hold = s.seq.hold ∧ (matchingWork ts s).track.geometry = s.track.geometry
      ∧ (matchingWork ts s).gov.settings = s.gov.settings ∧ (matchingWork ts s).gov.vSet = s.gov.vSet
      ∧ (matchingWork ts s).roll.settings = s.roll.settings
      ∧ (matchingWork ts s).notices.routes = s.notices.routes
      ∧ (matchingWork ts s).notices.mask = s.notices.mask ∧ (matchingWork ts s).track.free = s.track.free
      ∧ (matchingWork ts s).track.runout = s.track.runout
      ∧ (matchingWork ts s).track.tunnel = s.track.tunnel ∧ (matchingWork ts s).track.exit = s.track.exit
      ∧ (matchingWork ts s).track.done = s.track.done := by
  unfold matchingWork
  (repeat' (first | split | dsimp only)) <;> simp

@[simp] theorem replaceSpan_settings (s : State) :
    (replaceSpan s).track.geometry = s.track.geometry ∧ (replaceSpan s).roll.settings = s.roll.settings
      ∧ (replaceSpan s).track.free = s.track.free ∧ (replaceSpan s).track.runout = s.track.runout
      ∧ (replaceSpan s).track.tunnel = s.track.tunnel ∧ (replaceSpan s).track.exit = s.track.exit
      ∧ (replaceSpan s).track.done = s.track.done := by
  unfold replaceSpan
  (repeat' (first | split | dsimp only)) <;> simp

@[simp] theorem confirmPaste_settings (s : State) :
    (confirmPaste s).track.geometry = s.track.geometry
      ∧ (confirmPaste s).roll.settings = s.roll.settings ∧ (confirmPaste s).track.free = s.track.free
      ∧ (confirmPaste s).track.runout = s.track.runout ∧ (confirmPaste s).track.tunnel = s.track.tunnel
      ∧ (confirmPaste s).track.exit = s.track.exit ∧ (confirmPaste s).track.done = s.track.done := by
  unfold confirmPaste
  (repeat' (first | split | dsimp only)) <;> simp

@[simp] theorem pasteWork_settings (ts : Timestamp) (s : State) :
    (pasteWork ts s).seq.lowThreshold = s.seq.lowThreshold ∧ (pasteWork ts s).seq.hold = s.seq.hold
      ∧ (pasteWork ts s).track.geometry = s.track.geometry ∧ (pasteWork ts s).gov.settings = s.gov.settings
      ∧ (pasteWork ts s).gov.vSet = s.gov.vSet ∧ (pasteWork ts s).roll.settings = s.roll.settings
      ∧ (pasteWork ts s).notices.routes = s.notices.routes ∧ (pasteWork ts s).notices.mask = s.notices.mask
      ∧ (pasteWork ts s).track.free = s.track.free ∧ (pasteWork ts s).track.runout = s.track.runout
      ∧ (pasteWork ts s).track.tunnel = s.track.tunnel ∧ (pasteWork ts s).track.exit = s.track.exit
      ∧ (pasteWork ts s).track.done = s.track.done := by
  unfold pasteWork
  (repeat' (first | split | dsimp only)) <;> simp

@[simp] theorem clearWork_settings (s : State) :
    (clearWork s).seq.lowThreshold = s.seq.lowThreshold ∧ (clearWork s).seq.hold = s.seq.hold
      ∧ (clearWork s).track.geometry = s.track.geometry ∧ (clearWork s).gov.settings = s.gov.settings
      ∧ (clearWork s).gov.vSet = s.gov.vSet ∧ (clearWork s).roll.settings = s.roll.settings
      ∧ (clearWork s).notices.routes = s.notices.routes ∧ (clearWork s).notices.mask = s.notices.mask
      ∧ (clearWork s).track.free = s.track.free ∧ (clearWork s).track.runout = s.track.runout
      ∧ (clearWork s).track.tunnel = s.track.tunnel ∧ (clearWork s).track.exit = s.track.exit
      ∧ (clearWork s).track.done = s.track.done := by
  unfold clearWork
  (repeat' (first | split | dsimp only)) <;> simp

@[simp] theorem armedWork_settings (ts : Timestamp) (s : State) :
    (armedWork ts s).roll.settings = s.roll.settings := by
  unfold armedWork
  (repeat' (first | split | dsimp only)) <;> simp

@[simp] theorem spliceWork_settings (ts : Timestamp) (s : State) :
    (spliceWork ts s).seq.lowThreshold = s.seq.lowThreshold
      ∧ (spliceWork ts s).seq.hold = s.seq.hold ∧ (spliceWork ts s).track.geometry = s.track.geometry
      ∧ (spliceWork ts s).gov.settings = s.gov.settings ∧ (spliceWork ts s).gov.vSet = s.gov.vSet
      ∧ (spliceWork ts s).roll.settings = s.roll.settings
      ∧ (spliceWork ts s).notices.routes = s.notices.routes
      ∧ (spliceWork ts s).notices.mask = s.notices.mask ∧ (spliceWork ts s).track.free = s.track.free
      ∧ (spliceWork ts s).track.runout = s.track.runout
      ∧ (spliceWork ts s).track.tunnel = s.track.tunnel ∧ (spliceWork ts s).track.exit = s.track.exit
      ∧ (spliceWork ts s).track.done = s.track.done := by
  unfold spliceWork
  (repeat' (first | split | dsimp only)) <;> simp

@[simp] theorem armingOn_settings (ts : Timestamp) (r : TrackRecord) (s : State) :
    (armingOn ts r s).seq.lowThreshold = s.seq.lowThreshold ∧ (armingOn ts r s).seq.hold = s.seq.hold
      ∧ (armingOn ts r s).track.geometry = s.track.geometry
      ∧ (armingOn ts r s).gov.settings = s.gov.settings ∧ (armingOn ts r s).gov.vSet = s.gov.vSet
      ∧ (armingOn ts r s).roll.settings = s.roll.settings
      ∧ (armingOn ts r s).notices.routes = s.notices.routes
      ∧ (armingOn ts r s).notices.mask = s.notices.mask ∧ (armingOn ts r s).track.free = s.track.free
      ∧ (armingOn ts r s).track.runout = s.track.runout ∧ (armingOn ts r s).track.tunnel = s.track.tunnel
      ∧ (armingOn ts r s).track.exit = s.track.exit ∧ (armingOn ts r s).track.done = s.track.done := by
  unfold armingOn
  (repeat' (first | split | dsimp only)) <;> simp

@[simp] theorem armingTests_settings (ts : Timestamp) (s : State) :
    (armingTests ts s).seq.lowThreshold = s.seq.lowThreshold ∧ (armingTests ts s).seq.hold = s.seq.hold
      ∧ (armingTests ts s).track.geometry = s.track.geometry
      ∧ (armingTests ts s).gov.settings = s.gov.settings ∧ (armingTests ts s).gov.vSet = s.gov.vSet
      ∧ (armingTests ts s).roll.settings = s.roll.settings
      ∧ (armingTests ts s).notices.routes = s.notices.routes
      ∧ (armingTests ts s).notices.mask = s.notices.mask ∧ (armingTests ts s).track.free = s.track.free
      ∧ (armingTests ts s).track.runout = s.track.runout ∧ (armingTests ts s).track.tunnel = s.track.tunnel
      ∧ (armingTests ts s).track.exit = s.track.exit ∧ (armingTests ts s).track.done = s.track.done := by
  unfold armingTests
  (repeat' (first | split | dsimp only)) <;> simp

@[simp] theorem pasteField_settings (s : State) :
    (pasteField s).roll.settings = s.roll.settings := by
  unfold pasteField
  (repeat' (first | split | dsimp only)) <;> simp

@[simp] theorem rollWork_settings (ts : Timestamp) (s : State) :
    (rollWork ts s).seq.lowThreshold = s.seq.lowThreshold ∧ (rollWork ts s).seq.hold = s.seq.hold
      ∧ (rollWork ts s).track.geometry = s.track.geometry
      ∧ (rollWork ts s).gov.settings = s.gov.settings ∧ (rollWork ts s).gov.vSet = s.gov.vSet
      ∧ (rollWork ts s).roll.settings = s.roll.settings
      ∧ (rollWork ts s).notices.routes = s.notices.routes
      ∧ (rollWork ts s).notices.mask = s.notices.mask ∧ (rollWork ts s).track.free = s.track.free
      ∧ (rollWork ts s).track.runout = s.track.runout ∧ (rollWork ts s).track.tunnel = s.track.tunnel
      ∧ (rollWork ts s).track.exit = s.track.exit ∧ (rollWork ts s).track.done = s.track.done := by
  unfold rollWork
  (repeat' (first | split | dsimp only)) <;> simp

@[simp] theorem drainTests_settings (s : State) :
    (drainTests s).gov.settings = s.gov.settings ∧ (drainTests s).gov.vSet = s.gov.vSet := by
  unfold drainTests
  (repeat' (first | split | dsimp only)) <;> simp

@[simp] theorem enterStopped_settings (s : State) :
    (enterStopped s).seq.lowThreshold = s.seq.lowThreshold ∧ (enterStopped s).seq.hold = s.seq.hold
      ∧ (enterStopped s).track.geometry = s.track.geometry ∧ (enterStopped s).gov.settings = s.gov.settings
      ∧ (enterStopped s).gov.vSet = s.gov.vSet ∧ (enterStopped s).roll.settings = s.roll.settings
      ∧ (enterStopped s).notices.routes = s.notices.routes ∧ (enterStopped s).notices.mask = s.notices.mask
      ∧ (enterStopped s).track.free = s.track.free ∧ (enterStopped s).track.runout = s.track.runout
      ∧ (enterStopped s).track.tunnel = s.track.tunnel ∧ (enterStopped s).track.exit = s.track.exit
      ∧ (enterStopped s).track.done = s.track.done := by
  unfold enterStopped
  (repeat' (first | split | dsimp only)) <;> simp

@[simp] theorem stopTest_settings (s : State) :
    (stopTest s).seq.lowThreshold = s.seq.lowThreshold ∧ (stopTest s).seq.hold = s.seq.hold
      ∧ (stopTest s).track.geometry = s.track.geometry ∧ (stopTest s).gov.settings = s.gov.settings
      ∧ (stopTest s).gov.vSet = s.gov.vSet ∧ (stopTest s).roll.settings = s.roll.settings
      ∧ (stopTest s).notices.routes = s.notices.routes ∧ (stopTest s).notices.mask = s.notices.mask
      ∧ (stopTest s).track.free = s.track.free ∧ (stopTest s).track.runout = s.track.runout
      ∧ (stopTest s).track.tunnel = s.track.tunnel ∧ (stopTest s).track.exit = s.track.exit
      ∧ (stopTest s).track.done = s.track.done := by
  unfold stopTest
  (repeat' (first | split | dsimp only)) <;> simp

@[simp] theorem listenStop_settings (s : State) :
    (listenStop s).seq.lowThreshold = s.seq.lowThreshold ∧ (listenStop s).seq.hold = s.seq.hold
      ∧ (listenStop s).track.geometry = s.track.geometry ∧ (listenStop s).gov.settings = s.gov.settings
      ∧ (listenStop s).gov.vSet = s.gov.vSet ∧ (listenStop s).roll.settings = s.roll.settings
      ∧ (listenStop s).track.free = s.track.free ∧ (listenStop s).track.runout = s.track.runout
      ∧ (listenStop s).track.tunnel = s.track.tunnel ∧ (listenStop s).track.exit = s.track.exit
      ∧ (listenStop s).track.done = s.track.done := by
  unfold listenStop
  (repeat' (first | split | dsimp only)) <;> simp

@[simp] theorem composeLimits_settings (s : State) :
    (composeLimits s).seq.lowThreshold = s.seq.lowThreshold ∧ (composeLimits s).seq.hold = s.seq.hold
      ∧ (composeLimits s).track.geometry = s.track.geometry
      ∧ (composeLimits s).gov.settings = s.gov.settings ∧ (composeLimits s).gov.vSet = s.gov.vSet
      ∧ (composeLimits s).roll.settings = s.roll.settings
      ∧ (composeLimits s).notices.routes = s.notices.routes
      ∧ (composeLimits s).notices.mask = s.notices.mask ∧ (composeLimits s).track.free = s.track.free
      ∧ (composeLimits s).track.runout = s.track.runout ∧ (composeLimits s).track.tunnel = s.track.tunnel
      ∧ (composeLimits s).track.exit = s.track.exit ∧ (composeLimits s).track.done = s.track.done := by
  unfold composeLimits
  (repeat' (first | split | dsimp only)) <;> simp

@[simp] theorem compose_settings (s : State) :
    (compose s).seq.lowThreshold = s.seq.lowThreshold ∧ (compose s).seq.hold = s.seq.hold
      ∧ (compose s).track.geometry = s.track.geometry ∧ (compose s).gov.settings = s.gov.settings
      ∧ (compose s).gov.vSet = s.gov.vSet ∧ (compose s).roll.settings = s.roll.settings
      ∧ (compose s).notices.routes = s.notices.routes ∧ (compose s).notices.mask = s.notices.mask
      ∧ (compose s).track.free = s.track.free ∧ (compose s).track.runout = s.track.runout
      ∧ (compose s).track.tunnel = s.track.tunnel ∧ (compose s).track.exit = s.track.exit
      ∧ (compose s).track.done = s.track.done := by
  unfold compose
  (repeat' (first | split | dsimp only)) <;> simp

@[simp] theorem rampStep_settings (s : State) :
    (rampStep s).seq.lowThreshold = s.seq.lowThreshold ∧ (rampStep s).seq.hold = s.seq.hold
      ∧ (rampStep s).track.geometry = s.track.geometry ∧ (rampStep s).gov.settings = s.gov.settings
      ∧ (rampStep s).gov.vSet = s.gov.vSet ∧ (rampStep s).roll.settings = s.roll.settings
      ∧ (rampStep s).track.free = s.track.free ∧ (rampStep s).track.runout = s.track.runout
      ∧ (rampStep s).track.tunnel = s.track.tunnel ∧ (rampStep s).track.exit = s.track.exit
      ∧ (rampStep s).track.done = s.track.done := by
  unfold rampStep
  (repeat' (first | split | dsimp only)) <;> simp

@[simp] theorem infeedStep_settings (r : Nat) (s : State) :
    (infeedStep r s).seq.lowThreshold = s.seq.lowThreshold ∧ (infeedStep r s).seq.hold = s.seq.hold
      ∧ (infeedStep r s).track.geometry = s.track.geometry ∧ (infeedStep r s).gov.settings = s.gov.settings
      ∧ (infeedStep r s).gov.vSet = s.gov.vSet ∧ (infeedStep r s).roll.settings = s.roll.settings
      ∧ (infeedStep r s).notices.routes = s.notices.routes ∧ (infeedStep r s).notices.mask = s.notices.mask
      ∧ (infeedStep r s).track.free = s.track.free ∧ (infeedStep r s).track.runout = s.track.runout
      ∧ (infeedStep r s).track.tunnel = s.track.tunnel ∧ (infeedStep r s).track.exit = s.track.exit
      ∧ (infeedStep r s).track.done = s.track.done := by
  unfold infeedStep
  (repeat' (first | split | dsimp only)) <;> simp

@[simp] theorem spindleStep_settings (x : SpliceState) (s : State) :
    (spindleStep x s).gov.settings = s.gov.settings ∧ (spindleStep x s).gov.vSet = s.gov.vSet := by
  unfold spindleStep
  (repeat' (first | split | dsimp only)) <;> simp

@[simp] theorem governorStep_settings (r : Nat) (x : SpliceState) (s : State) :
    (governorStep r x s).seq.lowThreshold = s.seq.lowThreshold ∧ (governorStep r x s).seq.hold = s.seq.hold
      ∧ (governorStep r x s).track.geometry = s.track.geometry
      ∧ (governorStep r x s).gov.settings = s.gov.settings ∧ (governorStep r x s).gov.vSet = s.gov.vSet
      ∧ (governorStep r x s).roll.settings = s.roll.settings
      ∧ (governorStep r x s).notices.routes = s.notices.routes
      ∧ (governorStep r x s).notices.mask = s.notices.mask ∧ (governorStep r x s).track.free = s.track.free
      ∧ (governorStep r x s).track.runout = s.track.runout ∧ (governorStep r x s).track.tunnel = s.track.tunnel
      ∧ (governorStep r x s).track.exit = s.track.exit ∧ (governorStep r x s).track.done = s.track.done := by
  unfold governorStep
  (repeat' (first | split | dsimp only)) <;> simp

@[simp] theorem leaveTunnel_settings (i : Fin 64) (rest : List (Fin 64)) (s : State) :
    (leaveTunnel i rest s).seq.lowThreshold = s.seq.lowThreshold
      ∧ (leaveTunnel i rest s).seq.hold = s.seq.hold
      ∧ (leaveTunnel i rest s).track.geometry = s.track.geometry
      ∧ (leaveTunnel i rest s).gov.settings = s.gov.settings ∧ (leaveTunnel i rest s).gov.vSet = s.gov.vSet
      ∧ (leaveTunnel i rest s).roll.settings = s.roll.settings
      ∧ (leaveTunnel i rest s).notices.routes = s.notices.routes
      ∧ (leaveTunnel i rest s).notices.mask = s.notices.mask := by
  unfold leaveTunnel
  (repeat' (first | split | dsimp only)) <;> simp

@[simp] theorem exitMoves_settings (ts : Timestamp) (n : Nat) (s : State) :
    (exitMoves ts n s).seq.lowThreshold = s.seq.lowThreshold ∧ (exitMoves ts n s).seq.hold = s.seq.hold
      ∧ (exitMoves ts n s).track.geometry = s.track.geometry
      ∧ (exitMoves ts n s).gov.settings = s.gov.settings ∧ (exitMoves ts n s).gov.vSet = s.gov.vSet
      ∧ (exitMoves ts n s).roll.settings = s.roll.settings
      ∧ (exitMoves ts n s).notices.routes = s.notices.routes
      ∧ (exitMoves ts n s).notices.mask = s.notices.mask := by
  induction n generalizing s with
  | zero => simp [exitMoves]
  | succ n ih =>
    unfold exitMoves
    (repeat' split) <;> simp [*]

@[simp] theorem exitWork_settings (ts : Timestamp) (s : State) :
    (exitWork ts s).seq.lowThreshold = s.seq.lowThreshold ∧ (exitWork ts s).seq.hold = s.seq.hold
      ∧ (exitWork ts s).track.geometry = s.track.geometry ∧ (exitWork ts s).gov.settings = s.gov.settings
      ∧ (exitWork ts s).gov.vSet = s.gov.vSet ∧ (exitWork ts s).roll.settings = s.roll.settings
      ∧ (exitWork ts s).notices.routes = s.notices.routes ∧ (exitWork ts s).notices.mask = s.notices.mask := by
  unfold exitWork
  (repeat' (first | split | dsimp only)) <;> simp

@[simp] theorem cutHead_settings (i : Fin 64) (rest : List (Fin 64)) (s : State) :
    (cutHead i rest s).seq.lowThreshold = s.seq.lowThreshold ∧ (cutHead i rest s).seq.hold = s.seq.hold
      ∧ (cutHead i rest s).track.geometry = s.track.geometry
      ∧ (cutHead i rest s).gov.settings = s.gov.settings ∧ (cutHead i rest s).gov.vSet = s.gov.vSet
      ∧ (cutHead i rest s).roll.settings = s.roll.settings
      ∧ (cutHead i rest s).notices.routes = s.notices.routes
      ∧ (cutHead i rest s).notices.mask = s.notices.mask := by
  unfold cutHead
  (repeat' (first | split | dsimp only)) <;> simp

@[simp] theorem cuts_settings (n : Nat) (s : State) :
    (cuts n s).seq.lowThreshold = s.seq.lowThreshold ∧ (cuts n s).seq.hold = s.seq.hold
      ∧ (cuts n s).track.geometry = s.track.geometry ∧ (cuts n s).gov.settings = s.gov.settings
      ∧ (cuts n s).gov.vSet = s.gov.vSet ∧ (cuts n s).roll.settings = s.roll.settings
      ∧ (cuts n s).notices.routes = s.notices.routes ∧ (cuts n s).notices.mask = s.notices.mask := by
  induction n generalizing s with
  | zero => simp [cuts]
  | succ n ih =>
    unfold cuts
    (repeat' split) <;> simp [*]

@[simp] theorem formCutEntry_settings (s : State) :
    (formCutEntry s).track.geometry = s.track.geometry ∧ (formCutEntry s).track.free = s.track.free
      ∧ (formCutEntry s).track.runout = s.track.runout ∧ (formCutEntry s).track.tunnel = s.track.tunnel
      ∧ (formCutEntry s).track.exit = s.track.exit ∧ (formCutEntry s).track.done = s.track.done := by
  unfold formCutEntry
  (repeat' (first | split | dsimp only)) <;> simp

@[simp] theorem takeOffWork_settings (s : State) :
    (takeOffWork s).seq.lowThreshold = s.seq.lowThreshold ∧ (takeOffWork s).seq.hold = s.seq.hold
      ∧ (takeOffWork s).track.geometry = s.track.geometry ∧ (takeOffWork s).gov.settings = s.gov.settings
      ∧ (takeOffWork s).gov.vSet = s.gov.vSet ∧ (takeOffWork s).roll.settings = s.roll.settings
      ∧ (takeOffWork s).notices.routes = s.notices.routes ∧ (takeOffWork s).notices.mask = s.notices.mask := by
  unfold takeOffWork
  (repeat' (first | split | dsimp only)) <;> simp

@[simp] theorem takeIn_settings (rx : Reception) (s : State) :
    (takeIn rx s).lines.lines = s.lines.lines := by
  unfold takeIn
  (repeat' (first | split | dsimp only)) <;> simp

@[simp] theorem noteBehind_settings (was : Bool) (s : State) :
    (noteBehind was s).track.free = s.track.free
      ∧ (noteBehind was s).track.runout = s.track.runout
      ∧ (noteBehind was s).track.tunnel = s.track.tunnel
      ∧ (noteBehind was s).track.exit = s.track.exit
      ∧ (noteBehind was s).track.done = s.track.done
      ∧ (noteBehind was s).track.geometry = s.track.geometry
      ∧ (noteBehind was s).track.records = s.track.records := by
  unfold noteBehind
  split <;> simp

/-- All that lies behind the knife after an arrival's conversion (R111). -/
theorem mem_noteBehind {s : State} (held : beltLost s = false) (was : Bool) (i : Fin 64) :
    i ∈ (noteBehind was s).track.behind ↔
      i ∈ (if was then s.track.runout ++ s.track.tunnel else s.track.behind) ∧ behindKnife s i = true := by
  simp [noteBehind, held]

@[simp] theorem sampleWork_settings (f : Frame) (s : State) :
    (sampleWork f s).converter.entries = s.converter.entries
      ∧ (sampleWork f s).lines.lines = s.lines.lines
      ∧ (sampleWork f s).seq.lowThreshold = s.seq.lowThreshold ∧ (sampleWork f s).seq.hold = s.seq.hold
      ∧ (sampleWork f s).track.geometry = s.track.geometry ∧ (sampleWork f s).gov.settings = s.gov.settings
      ∧ (sampleWork f s).gov.vSet = s.gov.vSet ∧ (sampleWork f s).roll.settings = s.roll.settings
      ∧ (sampleWork f s).notices.routes = s.notices.routes ∧ (sampleWork f s).notices.mask = s.notices.mask
      ∧ (sampleWork f s).track.free = s.track.free ∧ (sampleWork f s).track.runout = s.track.runout
      ∧ (sampleWork f s).track.tunnel = s.track.tunnel ∧ (sampleWork f s).track.exit = s.track.exit
      ∧ (sampleWork f s).track.done = s.track.done := by
  unfold sampleWork
  (repeat' (first | split | dsimp only)) <;> simp

@[simp] theorem beforeDecision_settings (ts : Timestamp) (s : State) :
    (beforeDecision ts s).seq.lowThreshold = s.seq.lowThreshold ∧ (beforeDecision ts s).seq.hold = s.seq.hold
      ∧ (beforeDecision ts s).track.geometry = s.track.geometry ∧ (beforeDecision ts s).gov.settings = s.gov.settings
      ∧ (beforeDecision ts s).gov.vSet = s.gov.vSet ∧ (beforeDecision ts s).tunnel.pressureMin = s.tunnel.pressureMin
      ∧ (beforeDecision ts s).roll.settings = s.roll.settings
      ∧ (beforeDecision ts s).notices.routes = s.notices.routes ∧ (beforeDecision ts s).notices.mask = s.notices.mask := by
  unfold beforeDecision
  (repeat' (first | split | dsimp only)) <;> simp

@[simp] theorem webWork_settings (ts : Timestamp) (s : State) :
    (webWork ts s).seq.lowThreshold = s.seq.lowThreshold ∧ (webWork ts s).seq.hold = s.seq.hold
      ∧ (webWork ts s).track.geometry = s.track.geometry ∧ (webWork ts s).gov.settings = s.gov.settings
      ∧ (webWork ts s).gov.vSet = s.gov.vSet ∧ (webWork ts s).tunnel.pressureMin = s.tunnel.pressureMin
      ∧ (webWork ts s).roll.settings = s.roll.settings
      ∧ (webWork ts s).notices.routes = s.notices.routes ∧ (webWork ts s).notices.mask = s.notices.mask := by
  unfold webWork
  (repeat' (first | split | dsimp only)) <;> simp

@[simp] theorem lineWork_settings (n r : Nat) (x : SpliceState) (ts : Timestamp) (s : State) :
    (lineWork n r x ts s).seq.lowThreshold = s.seq.lowThreshold
      ∧ (lineWork n r x ts s).seq.hold = s.seq.hold ∧ (lineWork n r x ts s).track.geometry = s.track.geometry
      ∧ (lineWork n r x ts s).gov.settings = s.gov.settings ∧ (lineWork n r x ts s).gov.vSet = s.gov.vSet
      ∧ (lineWork n r x ts s).tunnel.pressureMin = s.tunnel.pressureMin
      ∧ (lineWork n r x ts s).roll.settings = s.roll.settings
      ∧ (lineWork n r x ts s).notices.routes = s.notices.routes
      ∧ (lineWork n r x ts s).notices.mask = s.notices.mask ∧ (lineWork n r x ts s).track.free = s.track.free
      ∧ (lineWork n r x ts s).track.runout = s.track.runout
      ∧ (lineWork n r x ts s).track.tunnel = s.track.tunnel ∧ (lineWork n r x ts s).track.exit = s.track.exit
      ∧ (lineWork n r x ts s).track.done = s.track.done := by
  unfold lineWork
  (repeat' (first | split | dsimp only)) <;> simp

@[simp] theorem activeWork_settings (n : Nat) (ts : Timestamp) (s : State) :
    (activeWork n ts s).seq.lowThreshold = s.seq.lowThreshold
      ∧ (activeWork n ts s).seq.hold = s.seq.hold ∧ (activeWork n ts s).track.geometry = s.track.geometry
      ∧ (activeWork n ts s).gov.settings = s.gov.settings ∧ (activeWork n ts s).gov.vSet = s.gov.vSet
      ∧ (activeWork n ts s).tunnel.pressureMin = s.tunnel.pressureMin
      ∧ (activeWork n ts s).roll.settings = s.roll.settings
      ∧ (activeWork n ts s).notices.routes = s.notices.routes
      ∧ (activeWork n ts s).notices.mask = s.notices.mask := by
  unfold activeWork
  (repeat' (first | split | dsimp only)) <;> simp

@[simp] theorem arrivalWork_settings (n : Nat) (f : Frame) (s : State) :
    (arrivalWork n f s).converter.entries = s.converter.entries
      ∧ (arrivalWork n f s).lines.lines = s.lines.lines
      ∧ (arrivalWork n f s).seq.lowThreshold = s.seq.lowThreshold
      ∧ (arrivalWork n f s).seq.hold = s.seq.hold ∧ (arrivalWork n f s).track.geometry = s.track.geometry
      ∧ (arrivalWork n f s).gov.settings = s.gov.settings ∧ (arrivalWork n f s).gov.vSet = s.gov.vSet
      ∧ (arrivalWork n f s).tunnel.pressureMin = s.tunnel.pressureMin
      ∧ (arrivalWork n f s).roll.settings = s.roll.settings
      ∧ (arrivalWork n f s).notices.routes = s.notices.routes
      ∧ (arrivalWork n f s).notices.mask = s.notices.mask := by
  unfold arrivalWork
  (repeat' (first | split | dsimp only)) <;> simp

@[simp] theorem arrival_settings (f : Frame) (s : State) :
    (arrival f s).port.address = s.port.address ∧ (arrival f s).port.readWindows = s.port.readWindows
      ∧ (arrival f s).port.writeWindows = s.port.writeWindows ∧ (arrival f s).port.map = s.port.map
      ∧ (arrival f s).port.period = s.port.period ∧ (arrival f s).port.slotLength = s.port.slotLength
      ∧ (arrival f s).converter.entries = s.converter.entries ∧ (arrival f s).lines.lines = s.lines.lines
      ∧ (arrival f s).seq.lowThreshold = s.seq.lowThreshold ∧ (arrival f s).seq.hold = s.seq.hold
      ∧ (arrival f s).track.geometry = s.track.geometry ∧ (arrival f s).gov.settings = s.gov.settings
      ∧ (arrival f s).gov.vSet = s.gov.vSet ∧ (arrival f s).tunnel.pressureMin = s.tunnel.pressureMin
      ∧ (arrival f s).roll.settings = s.roll.settings ∧ (arrival f s).notices.routes = s.notices.routes
      ∧ (arrival f s).notices.mask = s.notices.mask := by
  unfold arrival
  (repeat' (first | split | dsimp only)) <;> simp

@[simp] theorem badFrame_settings (c : ErrorCode) (s : State) :
    (badFrame c s).port.address = s.port.address ∧ (badFrame c s).port.readWindows = s.port.readWindows
      ∧ (badFrame c s).port.writeWindows = s.port.writeWindows ∧ (badFrame c s).port.map = s.port.map
      ∧ (badFrame c s).port.period = s.port.period ∧ (badFrame c s).port.slotLength = s.port.slotLength
      ∧ (badFrame c s).converter.entries = s.converter.entries
      ∧ (badFrame c s).seq.lowThreshold = s.seq.lowThreshold ∧ (badFrame c s).seq.hold = s.seq.hold
      ∧ (badFrame c s).track.geometry = s.track.geometry ∧ (badFrame c s).gov.settings = s.gov.settings
      ∧ (badFrame c s).gov.vSet = s.gov.vSet ∧ (badFrame c s).roll.settings = s.roll.settings
      ∧ (badFrame c s).notices.routes = s.notices.routes ∧ (badFrame c s).notices.mask = s.notices.mask
      ∧ (badFrame c s).track.free = s.track.free ∧ (badFrame c s).track.runout = s.track.runout
      ∧ (badFrame c s).track.tunnel = s.track.tunnel ∧ (badFrame c s).track.exit = s.track.exit
      ∧ (badFrame c s).track.done = s.track.done := by
  unfold badFrame
  (repeat' (first | split | dsimp only)) <;> simp

@[simp] theorem goodOutside_settings (f : Frame) (s : State) :
    (goodOutside f s).port.address = s.port.address
      ∧ (goodOutside f s).port.readWindows = s.port.readWindows
      ∧ (goodOutside f s).port.writeWindows = s.port.writeWindows ∧ (goodOutside f s).port.map = s.port.map
      ∧ (goodOutside f s).port.period = s.port.period
      ∧ (goodOutside f s).port.slotLength = s.port.slotLength
      ∧ (goodOutside f s).converter.entries = s.converter.entries
      ∧ (goodOutside f s).seq.lowThreshold = s.seq.lowThreshold ∧ (goodOutside f s).seq.hold = s.seq.hold
      ∧ (goodOutside f s).track.geometry = s.track.geometry
      ∧ (goodOutside f s).gov.settings = s.gov.settings ∧ (goodOutside f s).gov.vSet = s.gov.vSet
      ∧ (goodOutside f s).roll.settings = s.roll.settings
      ∧ (goodOutside f s).notices.routes = s.notices.routes
      ∧ (goodOutside f s).notices.mask = s.notices.mask ∧ (goodOutside f s).track.free = s.track.free
      ∧ (goodOutside f s).track.runout = s.track.runout ∧ (goodOutside f s).track.tunnel = s.track.tunnel
      ∧ (goodOutside f s).track.exit = s.track.exit ∧ (goodOutside f s).track.done = s.track.done := by
  unfold goodOutside
  (repeat' (first | split | dsimp only)) <;> simp

@[simp] theorem frameWork_settings (f : Frame) (s : State) :
    (frameWork f s).port.address = s.port.address
      ∧ (frameWork f s).port.readWindows = s.port.readWindows
      ∧ (frameWork f s).port.writeWindows = s.port.writeWindows ∧ (frameWork f s).port.map = s.port.map
      ∧ (frameWork f s).port.period = s.port.period ∧ (frameWork f s).port.slotLength = s.port.slotLength
      ∧ (frameWork f s).converter.entries = s.converter.entries
      ∧ (frameWork f s).lines.lines = s.lines.lines ∧ (frameWork f s).seq.lowThreshold = s.seq.lowThreshold
      ∧ (frameWork f s).seq.hold = s.seq.hold ∧ (frameWork f s).track.geometry = s.track.geometry
      ∧ (frameWork f s).gov.settings = s.gov.settings ∧ (frameWork f s).gov.vSet = s.gov.vSet
      ∧ (frameWork f s).tunnel.pressureMin = s.tunnel.pressureMin
      ∧ (frameWork f s).roll.settings = s.roll.settings ∧ (frameWork f s).notices.routes = s.notices.routes
      ∧ (frameWork f s).notices.mask = s.notices.mask := by
  unfold frameWork
  (repeat' (first | split | dsimp only)) <;> simp

end Sys2Proof.Machine
end

