-- ==== Sys2Proof/Tests/Slice0.lean ====
section
/-! SUPPORT. Tests. First the words of the tests; then the ill-formed terms that WellFormed refuses; then request bytes
written out from R197 and cases the manual works out; last, for each statement with hypotheses, a witness that its
hypotheses can be met, clause by clause. Expected values are the manual's own or worked out by hand from its rules. -/

namespace Sys2Proof.Tests

set_option Elab.async false

open Machine Statements Safety

/-! ### States and frames -/

/-- The state a command leaves. -/
def after (o : Answer) : State :=
  match o with
  | .next t => t
  | _ => State.reset

/-- The status of the reply a command leaves. -/
def statusOf (o : Answer) : Option Status := (after o).reply.map Reply.status

/-- The payload of that reply. -/
def payloadOf (o : Answer) : List Byte := ((after o).reply.map Reply.payload).getD []

/-- A line geometry. -/
def geometry : Geometry :=
  { entry := 150000, exit := 650000, cut := 700000, paster := 400000, window := 30000, cutWindow := 2000,
    minGap := 20000, spliceMargin := 200000, coreReserve := 500000, spliceLength := 100000 }

/-- A part with its port in `p`, its line in `l`, a geometry, and the silence deadline at 4000. -/
def part (p : PortState) (l : LineState) : State :=
  ((State.reset.withPort { State.reset.port with state := p, deadline := some 4000 }).withTrack
    { State.reset.track with geometry := some geometry }).withGov { State.reset.gov with line := l, vSet := 5000 }

/-- A part in ACTIVE, in CONFIGURE. -/
def serving : State := part .active .configure

/-- A part in LISTEN, in CONFIGURE. -/
def listening : State := part .listen .configure

/-- A quantity that is not LOST. -/
def valid (v : Nat) : Quantity :=
  { value := BitVec.ofNat 32 v, lost := false, fresh := true, age := 0, remainder := 0, lastRaw := some v }

/-- The state with quantity `q` at a valid value. -/
def withValue (q : Fin 16) (v : Nat) (s : State) : State :=
  s.withConverter { s.converter with quantities := s.converter.quantities.set q (valid v) }

/-- The state with the positions at the knife and on the belt. -/
def at' (p b : Nat) (s : State) : State := withValue 1 b (withValue 0 p s)

/-- A roll. -/
def roll : Roll := { lotTag := 77, core := 9000, thickness := 80 }

/-- A spindle with a roll, in a state. -/
def spindleWith (st : SpindleState) : Spindle :=
  { state := st, roll := some roll, remaining := some 3000000, refLength := none, refPosition := none,
    diameterLost := false }

/-- The state with spindle states A and B, and a splice state. -/
def withRolls (a b : SpindleState) (x : SpliceState) (s : State) : State :=
  s.withRoll { s.roll with spindleA := spindleWith a, spindleB := spindleWith b, splice := x, budget := 2500000 }

/-- The state with record 0 open at the tail of RUNOUT. -/
def withOpen (r : TrackRecord) (s : State) : State :=
  (s.withTrack { s.track with free := (List.finRange 64).tail, runout := [0], records := s.track.records.set 0 r }).withSeq
    { s.seq with openRecord := some 0 }

/-- An open GAP. -/
def gap : TrackRecord :=
  { TrackRecord.unused with kind := some .gap, isOpen := true, inStart := some 1000000, outStart := some 3000000,
                            gapReason := some .restart }

/-- An open PANEL of pattern 7 (section 4.4): the record of section 4.11. -/
def panel : TrackRecord :=
  { TrackRecord.unused with kind := some .panel, isOpen := true, inStart := some 1000000, outStart := some 3000000,
                            inLen := some 49400, outLen := some 31000, pattern := some 6, serial := some 41 }

/-- A line in RUN under a speed command with a GAP open, spindle A feeding. -/
def running : State :=
  withRolls .active .empty .standby
    (withOpen gap (at' 1000500 3000500 ((part .active .run).withGov { (part .active .run).gov with command := 1000 })))

/-- A cycle frame of 64 slot bytes with cycle number 7; its trailer is 0. -/
def rawFrame : Frame :=
  { kind := 1, flags := 0, cycle := 7, timestamp := 5000, slotLength := 64, slots := List.replicate 64 0, target := 0,
    code := 0, tag := 0, payloadLength := 0, payload := Vector.replicate 192 0, replyStatus := 0, tagEcho := 0,
    replyLength := 0, replyPayload := Vector.replicate 192 0, crc := 0 }

/-- A frame with the trailer its content calls for. -/
def sound (f : Frame) : Frame := { f with crc := frameCrc f }

/-- The reception of a frame 1000 µs after the last command. -/
def receiving (f : Frame) : Reception := { frame := f, pins := 0, elapsed := 1000 }

/-- A good frame without a request. -/
def goodRx : Reception := receiving (sound rawFrame)

/-- A frame whose trailer does not match. -/
def badRx : Reception := receiving rawFrame

/-- The port counts of a state. -/
def withCounts (sync run recovery : Nat) (s : State) : State :=
  s.withPort { s.port with syncCount := sync, runCount := run, recoveryCount := recovery,
                           previous := some (6, 4000) }

/-! ### Patterns of the manual -/

/-- The groups of pattern 7 (section 4.4). -/
def groups7 : List FoldGroup :=
  [{ flatLead := 0, kind := 1, count := 5, pitch := 2000, startDepth := 1000, endDepth := 1400 },
   { flatLead := 3000, kind := 2, count := 2, pitch := 4000, startDepth := 800, endDepth := 800 }]

/-- The record of pattern 12 as WRITE_PATTERN carries it (section 3.7). -/
def args12 : PatternArgs :=
  { leadIn := 4000, leadOut := 2000, minDwell := 90, maxDwell := 0, tolerance := 1500, lotClass := 3
    groups :=
      [{ flatLead := 0, kind := 1, count := 3, pitch := 1500, startDepth := 600, endDepth := 900 },
       { flatLead := 1000, kind := 0, count := 2, pitch := 500, startDepth := 0, endDepth := 0 },
       { flatLead := 0, kind := 2, count := 2, pitch := 3000, startDepth := 700, endDepth := 700 }] }

/-- Pattern 7 as the store holds it. -/
def pattern7 : Pattern :=
  withTotals FoldKind.table
    { leadIn := 5000, leadOut := 5000, groups := groups7, minDwell := 120, maxDwell := none, tolerance := 0,
      lotClass := 0, totals := { input := 0, output := 0, folds := 0, maxRatio := 0 }, clamped := false }

/-- Pattern 12 as the store holds it. -/
def pattern12 : Pattern := patternOf FoldKind.table args12

/-- The state with pattern 7 in its place. -/
def with7 (s : State) : State := s.withStore { s.store with places := s.store.places.set 6 (some pattern7) }

/-- The state with pattern 12 in its place. -/
def with12 (s : State) : State := s.withStore { s.store with places := s.store.places.set 11 (some pattern12) }

/-- A run of pattern 7. -/
def run7 : Run := { pattern := 6, count := 2, lotTag := 501 }

/-! ### WellFormed refuses an ill-formed term for each of its checks -/

theorem test_fits_refuses : fits 1 256 = false ∧ fits 1 255 = true ∧ fits 2 65536 = false := by decide

theorem test_presence_refuses : optFits 2 (.malformed 1) = false ∧ optFits 2 (.malformed 256) = false
    ∧ optFits 1 (.present 256) = false := by decide

theorem test_window_refuses : windowFits (.present 0 65536) = false ∧ windowFits (.present 65536 0) = false
    ∧ windowFits (.malformed 0) = false := by decide

theorem test_signed_refuses : signedFits 2147483648 = false ∧ signedFits (-2147483649) = false := by decide

/-- A conversion entry as WRITE_CONVERSION carries it: ZONE3_TEMP of section 2.8. -/
def zone3 : ConversionArgs :=
  { enabled := 0, source := 0, slotOffset := 10, validity := .present 12, group := 0, firstLine := 0, bitOffset := 0,
    width := 16, signed := 0, gray := 1, numerator := 1, denominator := 10, offset := 0, maxChange := 50,
    staleLimit := 4 }

theorem test_conversion_refuses : conversionFits zone3 = true ∧ conversionFits { zone3 with width := 256 } = false
    ∧ wellFormed (.writeConversion 256 zone3) = false := by decide

/-- A line without a function, non-inverting and LIVE. -/
def plainLine : LineArgs := { polarity := 0, mode := 0, function := 0 }

/-- A locked group of plain lines. -/
def plainGroup : GroupArgs := { lock := 0, inhibit := .absent, lines := Vector.replicate 8 plainLine }

theorem test_group_refuses : groupSetupFits plainGroup = true
    ∧ groupSetupFits { plainGroup with lines := plainGroup.lines.set 7 { plainLine with function := 256 } } = false := by
  decide +kernel

theorem test_fold_group_refuses : foldGroupFits { flatLead := 0, kind := 0, count := 256, pitch := 0, startDepth := 0, endDepth := 0 } = false
    ∧ patternFits { args12 with groups := List.replicate 15 { flatLead := 0, kind := 0, count := 1, pitch := 0, startDepth := 0, endDepth := 0 } } = false
    ∧ patternFits { args12 with leadIn := 4294967296 } = false := by
  decide +kernel

theorem test_geometry_refuses : geometryFits geometry = true
    ∧ geometryFits { geometry with spliceLength := 4294967296 } = false := by decide

theorem test_speeds_refuse : speedsFit SpeedSettings.reset = true
    ∧ speedsFit { SpeedSettings.reset with dancerSet := 65536 } = false := by decide

/-- The operands of a WRITE_ZONE: zone 3 of section 8.3, unfitted. -/
def zoneArgs : ZoneArgs :=
  { role := .absent, spanStart := .absent, spanEnd := .absent, setPoint := 1800, bandLow := 1780, bandHigh := 1820,
    hysteresis := 10, settleCount := 3, kp := 64, ki := 8, bias := 200, fallback := 150 }

theorem test_zone_refuses : zoneFits zoneArgs = true ∧ zoneFits { zoneArgs with settleCount := 256 } = false := by
  decide

theorem test_frame_refuses : frameFits goodRx = true
    ∧ wellFormed (.cycleFrame { goodRx with frame := { rawFrame with slots := [] } }) = false := by
  decide +kernel

theorem test_pairs_refuse : wellFormed (.setLines (List.replicate 96 (0, 0))) = false
    ∧ wellFormed (.setLines [(256, 0)]) = false := by decide +kernel

/-! ### Requests spelt by their bytes, written out from R197 -/

/-- COLLECT of section 12.6: code 26, payload bytes 1 and 1. -/
theorem test_collect_bytes : Decode.parseRequest 26 [1, 1] = .ok (.collect (.present 1)) := by decide

/-- APPEND_RUN: pattern 7, count 2, lot tag 501 = 01F5h. -/
theorem test_append_bytes : Decode.parseRequest 17 [7, 2, 0, 0xF5, 1] = .ok (.appendRun 7 2 501) := by decide

/-- SET_CYCLE: 1000 = 03E8h µs, 256 bytes. -/
theorem test_cycle_bytes : Decode.parseRequest 7 [0xE8, 3, 0, 1] = .ok (.setCycle 1000 256) := by decide

/-- WRITE_PATTERN of pattern 12 with its first group alone: 17 + 12 bytes. -/
theorem test_pattern_bytes : Decode.parseRequest 14
    [12, 0xA0, 0x0F, 0, 0, 0xD0, 7, 0, 0, 90, 0, 0, 0, 0xDC, 5, 3, 1, 0, 0, 0, 0, 1, 3, 0xDC, 5, 0x58, 2, 0x84, 3] =
      .ok (.writePattern 12 { args12 with groups := args12.groups.take 1 }) := by decide +kernel

/-- WRITE_CONVERSION: an offset of −2 is two's complement in 4 bytes. -/
theorem test_conversion_bytes : Decode.parseRequest 8
    [10, 0, 0, 10, 0, 1, 12, 0, 0, 0, 0, 16, 0, 1, 1, 0, 10, 0, 0xFE, 0xFF, 0xFF, 0xFF, 50, 0, 0, 0, 4] =
      .ok (.writeConversion 10 { zone3 with offset := -2 }) := by decide +kernel

/-- Other lengths are RANGE, other codes UNKNOWN (R16). -/
theorem test_refused_bytes : Decode.parseRequest 7 [0xE8, 3, 0] = .error .range
    ∧ Decode.parseRequest 1 [0] = .error .range ∧ Decode.parseRequest 49 [] = .error .unknown
    ∧ Decode.parseRequest 48 [2] = .error .range := by decide

/-- No row of the table gives bits. -/
theorem test_no_table_word : decodeTableWord 8 1 = none := rfl

/-! ### Cases the manual works out -/

/-- The CRC-32 of the nine characters 123456789 (R201). -/
theorem test_crc_check_value : crc32 [0x31, 0x32, 0x33, 0x34, 0x35, 0x36, 0x37, 0x38, 0x39] = 0xCBF43926#32 := by
  decide +kernel

/-- Graded depths with their rounding (section 4.2). -/
theorem test_graded_depths :
    ((List.range 4).map fun k => gradedDepth { flatLead := 0, kind := 1, count := 4, pitch := 2000, startDepth := 1500, endDepth := 1000 } k)
      = [1500, 1333, 1167, 1000]
    ∧ gradedDepth { flatLead := 0, kind := 1, count := 3, pitch := 2000, startDepth := 1001, endDepth := 1000 } 1 = 1000 := by
  decide +kernel

/-- The totals of pattern 7 (section 4.4) and of pattern 12 (section 3.7). -/
theorem test_totals : pattern7.totals = { input := 49400, output := 31000, folds := 7, maxRatio := 9830 }
    ∧ pattern12.totals = { input := 28600, output := 18500, folds := 7, maxRatio := 9011 }
    ∧ pattern12.clamped = false ∧ entryCount pattern7 = 10 := by decide +kernel

/-- WRITE_FOLD_KIND of kind 2 with limit 500 under pattern 12: the reply and the totals (section 3.7). -/
theorem test_fold_kind_write : (let o := exec (.writeFoldKind 2 4 500 3) (with12 (part .active .stopped))
    (statusOf o, payloadOf o, ((after o).store.places[(11 : Fin 48)].map Pattern.totals)))
      = (some .ok, [4, 0x88, 0x13, 3, 1, 1], some { input := 27000, output := 18500, folds := 7, maxRatio := 9011 }) := by
  decide +kernel

/-- The dancer count of a Gray run: 11001010 reads 140 (section 2.8). -/
theorem test_gray_count : grayDecode 8 0b11001010 = 140 := by decide

/-- The entry that ZONE3_TEMP's operands give. -/
def zone3Entry : ConversionEntry :=
  { ConversionEntry.reset with
    enabled := true, slotOffset := 10, validity := some 12, width := 16, signed := true, denominator := 10,
    maxChange := 50, staleLimit := 4 }

theorem test_conversion_operands : entryOf zone3 = some zone3Entry := by decide +kernel

/-- ZONE3_TEMP at frames a to c, and at i after LOST (section 2.8). -/
theorem test_absolute_samples :
    (convertAbsolute 2500 zone3Entry Quantity.reset 18745, convertAbsolute 2500 zone3Entry (valid 1881) 19500,
      convertAbsolute 2500 zone3Entry { valid 1931 with lastRaw := none } 19012,
      convertAbsolute 2500 zone3Entry Quantity.reset 65521) = ((1875, false), (1931, true), (1901, false), (0, false)) := by
  decide +kernel

/-- The infeed encoder of section 2.8. -/
def encoder : ConversionEntry :=
  { ConversionEntry.reset with enabled := true, width := 24, numerator := 5, denominator := 8, maxChange := 4000, staleLimit := 3 }

/-- INFEED_POS at frames a, c, d and e across the encoder's wrap (section 2.8). -/
theorem test_incremental_samples :
    convertIncremental encoder Quantity.reset 16777190 = (10485744, 0, false)
    ∧ convertIncremental encoder { valid 10485756 with remainder := 4, lastRaw := some 16777210 } 11 = (10485767, 1, false)
    ∧ convertIncremental encoder { valid 10485767 with remainder := 1, lastRaw := some 11 } 9 = (10485765, 7, false)
    ∧ convertIncremental encoder { valid 10485765 with remainder := 7, lastRaw := some 9 } 6000 = (10488265, 7, true) := by
  decide +kernel

/-- Zone 3's valve at v1 and v2 (section 8.3). -/
theorem test_valve :
    (let z : Zone := { Zone.reset with state := .inBand, integrator := 51200, settings := zoneSettingsOf zoneArgs }
     let z1 := regulate false z 1780
     let z2 := regulate false z1 1830
     (z1.opening, z1.integrator, z2.opening, z2.integrator)) = (480, 51360, 279, 51120) := by decide +kernel

/-- Zone 3 at 1830: IN_BAND with a hysteresis of 10, HIGH with 5 (section 8.3). -/
theorem test_crossing :
    (let z : Zone := { Zone.reset with state := .inBand, settings := zoneSettingsOf zoneArgs }
     (zoneCrossing z 1830, zoneCrossing { z with settings := { z.settings with hysteresis := 5 } } 1830)) =
      (none, some .high) := by decide +kernel

/-- The remaining length of a roll, and its dead reckoning at k3 (section 9.2). -/
theorem test_roll_length : rollLength 20000 roll = 31317754 ∧ rollLength 19870 roll = 30808904
    ∧ deadReckoned 50400000 31317754 50000000 = 30917754 := by decide +kernel

/-- The dwell and feed limits of section 7.8. -/
theorem test_limits : 300000 * 10 / 90 = 33333 ∧ (300000 * 10 / 120, 60000 * 4096 / 9011) = (25000, 27273) := by decide

/-- The port's counts over a bad and a SEQUENCE frame (section 1.8: frames 507 and 508). -/
theorem test_sync_restarts :
    (let s := withCounts 7 0 0 (part .syncing .configure)
     let s1 := after (exec (.cycleFrame badRx) s)
     let s2 := after (exec (.cycleFrame (receiving (sound { rawFrame with cycle := 8 }))) s1)
     (s1.port.syncCount, s2.port.syncCount, s2.port.missedCycles, s2.port.badFrames, s2.port.lastError)) =
      (0, 1, 1, 1, .sequence) := by decide +kernel

/-- COLLECT with expected index 1 (section 12.6): its frame, and the repeat refused. -/
def collecting : State :=
  (part .active .stopped).withTrack
    { (part .active .stopped).track with
      free := (List.finRange 64).drop 4, runout := [0], done := [1, 2, 3]
      records := (part .active .stopped).track.records.set 1
        { panel with isOpen := false, disposition := some .good, cutEmitted := true } }

theorem test_collect_reply :
    (let o := exec (.collect (.present 1)) collecting
     statusOf o = some .ok ∧ (payloadOf o).length = 58 ∧ (payloadOf o).take 3 = [1, 0, 1] ∧ (payloadOf o).getD 5 9 = 1
       ∧ (after o).track.done = [2, 3] ∧ (after o).track.free.length = 61 ∧ (after o).track.free.getLast? = some 1
       ∧ statusOf (exec (.collect (.present 1)) (after o)) = some .absent) := by
  decide +kernel

/-! ### The hypotheses of the statements can be met: the requests -/

theorem witness_StepRunsFrontCommand :
    (serving.withPending [.holdPanels, .cancelRuns]).pending = .holdPanels :: [.cancelRuns] := rfl

theorem served_serving : Served serving := .inr rfl

theorem served_listening : Served listening := .inl rfl

/-- A part that is in neither LISTEN nor ACTIVE. -/
theorem not_served {s : State} (h : (decide (s.port.state = .listen) || decide (s.port.state = .active)) = false) :
    ¬Served s := by
  rintro (e | e) <;> simp [e] at h

theorem witness_RequestsPassUntouchedOutsideListenAndActive : (Decode.requestBytes .start).isSome = true
    ∧ ¬Served (part .offline .stopped) ∧ ¬Served (part .syncing .stopped) ∧ ¬Served (part .fault .stopped) :=
  ⟨by decide, not_served rfl, not_served rfl, not_served rfl⟩

theorem witness_ReadQuantityReportsAndTakes :
    Served serving ∧ statusOf (exec (.readQuantity 16 0) serving) = some .range
    ∧ statusOf (exec (.readQuantity 15 2) serving) = some .range ∧ (15 : Nat) = (15 : Fin 16).val
    ∧ (payloadOf (exec (.readQuantity 15 1) serving)).length = 16
    ∧ (after (exec (.readQuantity 0 0) (withValue 0 7 serving))).converter.quantities[(0 : Fin 16)].fresh = false :=
  ⟨served_serving, by decide +kernel⟩

theorem witness_ReadLinesReportsEveryLine : Served serving ∧ (payloadOf (exec .readLines serving)).length = 176 :=
  ⟨served_serving, by decide +kernel⟩

theorem witness_ReadPatternReportsTheRecord :
    Served (with7 serving) ∧ statusOf (exec (.readPattern 0) (with7 serving)) = some .range
    ∧ statusOf (exec (.readPattern 49) (with7 serving)) = some .range
    ∧ (with7 serving).store.places[(47 : Fin 48)] = none ∧ (with7 serving).store.places[(6 : Fin 48)] = some pattern7
    ∧ (payloadOf (exec (.readPattern 7) (with7 serving))).length = 55 :=
  ⟨.inr rfl, by decide +kernel⟩

theorem witness_ReadListReportsTheList :
    Served serving ∧ statusOf (exec (.readList 5) serving) = some .range
    ∧ (payloadOf (exec (.readList 0) serving)).length = 70
    ∧ payloadOf (exec (.readList 4) serving) = [0, 0, 0, 0, 0, 0] :=
  ⟨served_serving, by decide +kernel⟩

theorem witness_ReadNoticesReportsTheBlock : Served listening ∧ (payloadOf (exec .readNotices listening)).length = 179 :=
  ⟨served_listening, by decide +kernel⟩

/-! #### Patterns -/

/-- A group of pitch 200 and kind 2 with depth `d`: at 400 it takes up 9 × 200 exactly. -/
def steep (d : Nat) : FoldGroup := { flatLead := 0, kind := 2, count := 1, pitch := 200, startDepth := d, endDepth := 0 }

/-- A pattern whose output length is 600000 plus `d`. -/
def long (d : Nat) : PatternArgs :=
  { args12 with leadIn := 200000, leadOut := 200000, groups :=
      [{ flatLead := d, kind := 0, count := 20, pitch := 10000, startDepth := 0, endDepth := 0 }] }

/-- The state with a run of pattern 7 in the order queue. -/
def queued : State := (with7 serving).withSeq { (with7 serving).seq with queue := [run7, run7] }

/-- The kind table with kind 2 limited to 500. -/
def kinds500 : Vector FoldKind 16 := FoldKind.table.set 2 { multiplier := 4, limit := 500, actions := { knife := true, tuck := true, reverse := false, mark := false } }

theorem queued_in_use : InUse queued 6 := .inr (.inl ⟨run7, .head _, rfl⟩)

/-- A pattern that no run and no record on the belt names. -/
theorem not_in_use {s : State} {p : Fin 48} (h : patternInUse s p = false) : ¬InUse s p := fun u => by
  rw [(patternInUse_iff s p).mpr u] at h
  cases h

theorem witness_WritePatternStoresOrRefuses_fields :
    Served serving ∧ firstFalse (patternOperands 0 args12) = some 1 ∧ firstFalse (patternOperands 49 args12) = some 1
    ∧ firstFalse (patternOperands 48 args12) = none ∧ firstFalse (patternOperands 1 args12) = none
    ∧ firstFalse (patternOperands 12 { args12 with groups := [] }) = some 8
    ∧ firstFalse (patternOperands 12 { args12 with groups := [steep 0, { steep 0 with kind := 16 }] }) = some 16
    ∧ payloadOf (exec (.writePattern 12 { args12 with groups := [steep 0, { steep 0 with kind := 16 }] }) serving) = [1, 16, 1, 0] :=
  ⟨served_serving, by decide +kernel⟩

theorem witness_WritePatternStoresOrRefuses_take_up :
    firstFalse (patternOperands 12 { args12 with groups := [steep 400, steep 401] }) = none
    ∧ [steep 400, steep 401].findIdx? (fun g => !takesUp serving.store.kinds g) = some 1
    ∧ payloadOf (exec (.writePattern 12 { args12 with groups := [steep 400, steep 401] }) serving) = [17, 12, 1, 0] := by
  decide +kernel

theorem witness_WritePatternStoresOrRefuses_output :
    firstFalse (patternOperands 12 (long 1)) = none ∧ firstFalse (patternOperands 12 (long 0)) = none
    ∧ (∀ g ∈ (long 1).groups, takesUp serving.store.kinds g = true)
    ∧ (patternOf FoldKind.table (long 1)).totals.output = 600001
    ∧ payloadOf (exec (.writePattern 12 (long 1)) serving) = [18, 12, 0, 0]
    ∧ statusOf (exec (.writePattern 12 (long 0)) serving) = some .ok := by
  decide +kernel

theorem witness_WritePatternStoresOrRefuses_in_use :
    Served queued ∧ InUse queued 6 ∧ firstFalse (patternOperands 7 args12) = none
    ∧ (∀ g ∈ args12.groups, takesUp queued.store.kinds g = true) ∧ pattern12.totals.output ≤ 600000
    ∧ queued.store.places[(6 : Fin 48)] ≠ none ∧ statusOf (exec (.writePattern 7 args12) queued) = some .inUse :=
  ⟨.inr rfl, queued_in_use, by decide +kernel⟩

theorem witness_WritePatternStoresOrRefuses_stored : serving.store.places[(11 : Fin 48)] = none
    ∧ isClamped FoldKind.table args12.groups = false ∧ isClamped kinds500 args12.groups = true
    ∧ (let s := serving.withStore { serving.store with kinds := kinds500 }
       isPending (after (exec (.writePattern 12 args12) s)).notices (noticeIndex .patternClamped) = true
         ∧ (after (exec (.writePattern 12 args12) serving)).store.places[(11 : Fin 48)] = some pattern12) := by
  decide +kernel

theorem witness_DeletePatternFreesThePlace :
    Served queued ∧ InUse queued 6 ∧ Served (with7 serving) ∧ ¬InUse (with7 serving) 6 ∧ (48 : Nat) < 49
    ∧ queued.store.places[(0 : Fin 48)] = none ∧ queued.store.places[(6 : Fin 48)] ≠ none
    ∧ (with7 serving).store.places[(6 : Fin 48)] ≠ none ∧ statusOf (exec (.deletePattern 7) queued) = some .inUse
    ∧ (after (exec (.deletePattern 7) (with7 serving))).store.places[(6 : Fin 48)] = none :=
  ⟨.inr rfl, queued_in_use, .inr rfl, not_in_use (by decide +kernel), by decide +kernel⟩

/-- Places checked one by one. -/
theorem of_all_places {v : Vector (Option Pattern) 48} {P : Pattern → Bool}
    (h : (List.finRange 48).all (fun p => (v[p].map P).getD true) = true) : ∀ (p : Fin 48) (x : Pattern), v[p] = some x → P x = true := by
  intro p x hx
  have := List.all_eq_true.mp h p (List.mem_finRange p)
  rw [hx] at this
  exact this

/-- A stored pattern of one group, kind 1, pitch 200 and depth 500: 200 + 4 × 500 is above 9 × 200. -/
def tight : Pattern := patternOf FoldKind.table { args12 with groups := [{ steep 500 with kind := 1 }] }

/-- The kind table with multiplier 4 for kind 1. -/
def kinds4 : Vector FoldKind 16 := FoldKind.table.set 1 { multiplier := 4, limit := 5000, actions := { knife := true, tuck := false, reverse := false, mark := false } }

theorem witness_WriteFoldKindRecomputesItsPatterns_refused :
    Served running ∧ running.gov.line ≠ .configure ∧ running.gov.line ≠ .stopped
    ∧ statusOf (exec (.writeFoldKind 2 4 500 3) running) = some .state
    ∧ statusOf (exec (.writeFoldKind 16 4 5000 15) serving) = some .range ∧ usesKind tight 1 = true
    ∧ tight.groups.findIdx? (fun g => !takesUp kinds4 g) = some 0
    ∧ (let s := serving.withStore { serving.store with places := serving.store.places.set 0 (some tight) }
       s.store.places[(0 : Fin 48)] = some tight ∧ (∀ q : Fin 48, ¬q < 0)
         ∧ payloadOf (exec (.writeFoldKind 1 4 5000 1) s) = [17, 1, 0, 0])
    ∧ usesKind (patternOf FoldKind.table (long 1)) 0 = true
    ∧ (∀ g ∈ (patternOf FoldKind.table (long 1)).groups, takesUp FoldKind.table g = true)
    ∧ 600000 < (computeTotals FoldKind.table (long 1).leadIn (long 1).leadOut (long 1).groups).output :=
  ⟨.inr rfl, by decide +kernel⟩

/-- What the success clause of WRITE_FOLD_KIND asks of each pattern. -/
def takesKind (kinds : Vector FoldKind 16) (k : Fin 16) (x : Pattern) : Bool :=
  !usesKind x k || (x.groups.all (takesUp kinds) && decide ((computeTotals kinds x.leadIn x.leadOut x.groups).output ≤ 600000))

theorem witness_WriteFoldKindRecomputesItsPatterns_success : Served (with12 (part .active .stopped))
    ∧ (∀ (p : Fin 48) (x : Pattern), (with12 (part .active .stopped)).store.places[p] = some x → usesKind x 2 = true →
        (∀ g ∈ x.groups, takesUp kinds500 g = true) ∧ (computeTotals kinds500 x.leadIn x.leadOut x.groups).output ≤ 600000)
    ∧ pattern12.clamped = false ∧ isClamped kinds500 pattern12.groups = true
    ∧ isClamped FoldKind.table pattern12.groups = false := by
  refine ⟨.inr rfl, fun p x hx hu => ?_, by decide +kernel, by decide +kernel, by decide +kernel⟩
  have := of_all_places (P := takesKind kinds500 2) (by decide +kernel) p x hx
  simpa [takesKind, hu] using this

/-! #### Orders and records -/

theorem witness_CancelRunsEmptiesTheQueue :
    Served queued ∧ payloadOf (exec .cancelRuns queued) = [2] ∧ (after (exec .cancelRuns queued)).seq.queue = [] :=
  ⟨.inr rfl, by decide +kernel⟩

theorem witness_OrdersZonesAndRollsAreReported :
    Served queued ∧ (payloadOf (exec .readOrders queued)).length = 30
    ∧ (payloadOf (exec .readZones serving)).length = 158 ∧ (payloadOf (exec .readRolls serving)).length = 77 :=
  ⟨.inr rfl, by decide +kernel⟩

/-- A state with a record in every list. -/
def spread : State :=
  serving.withTrack { serving.track with free := (List.finRange 64).drop 4, runout := [0], tunnel := [1], exit := [2], done := [3] }

theorem witness_RecordsAreReportedAndCollected :
    Served spread ∧ ListsHoldEveryRecordOnce spread ∧ (63 : Fin 64) ∈ spread.track.free
    ∧ (0 : Fin 64) ∈ spread.track.runout ∧ (1 : Fin 64) ∈ spread.track.tunnel ∧ (2 : Fin 64) ∈ spread.track.exit
    ∧ (3 : Fin 64) ∈ spread.track.done ∧ statusOf (exec (.readRecord 64) spread) = some .range
    ∧ (payloadOf (exec (.readRecord 0) spread)).length = 58 ∧ spread.track.done = 3 :: []
    ∧ statusOf (exec (.collect .absent) spread) = some .ok
    ∧ statusOf (exec (.collect (.present 63)) spread) = some .absent
    ∧ statusOf (exec (.collect (.present 64)) spread) = some .range ∧ serving.track.done = []
    ∧ statusOf (exec (.collect (.present 63)) serving) = some .empty :=
  ⟨.inr rfl, by unfold ListsHoldEveryRecordOnce; decide +kernel, by decide +kernel⟩

theorem witness_SequencerRequests :
    Served queued ∧ statusOf (exec (.appendRun 0 1 0) queued) = some .range
    ∧ statusOf (exec (.appendRun 48 65535 65535) queued) = some .absent
    ∧ payloadOf (exec (.appendRun 7 1 0) queued) = [3]
    ∧ statusOf (exec (.appendRun 7 1 0) (queued.withSeq { queued.seq with queue := List.replicate 16 run7 })) = some .full
    ∧ statusOf (exec (.setOrderLow 15) queued) = some .ok ∧ statusOf (exec (.setOrderLow 16) queued) = some .range
    ∧ statusOf (exec (.setPressureMin 1000) queued) = some .ok
    ∧ statusOf (exec (.setPressureMin 1001) queued) = some .range :=
  ⟨.inr rfl, by decide +kernel⟩

/-! #### The line -/

/-- A configuration that LEAVE_CONFIG lets pass: 64 slot bytes, STATUS at 0, both positions sampled at 32 and 36. -/
def soundLine : State :=
  let p := (part .active .configure).port
  ((part .active .configure).withPort { p with
      slotLength := some 64
      readWindows := p.readWindows.set 0 (some { base := 32, limit := 63 })
      writeWindows := p.writeWindows.set 3 (some { base := 0, limit := 25 })
      map := p.map.set 8 (some 0) }).withConverter { serving.converter with
      entries := (serving.converter.entries.set 0 { encoder with slotOffset := 32 }).set 1
        { encoder with slotOffset := 36, validity := some 63 } }

theorem witness_LeaveConfigPassesExactlySoundConfigurations :
    leaveViolation soundLine = none ∧ (leaveViolation serving).isSome = true := by decide +kernel

theorem witness_LineStateRequests :
    Served (part .active .stopped) ∧ Served soundLine ∧ Served running ∧ soundLine.gov.line = .configure
    ∧ leaveViolation soundLine = none ∧ (leaveViolation serving).isSome = true
    ∧ statusOf (exec .leaveConfig serving) = some .range
    ∧ statusOf (exec .enterConfig (part .active .stopped)) = some .ok
    ∧ statusOf (exec .enterConfig (part .active .halted)) = some .state
    ∧ statusOf (exec .stop (part .active .stopping)) = some .ok ∧ statusOf (exec .stop serving) = some .state
    ∧ openKind (part .active .run) ≠ some .gap ∧ (after (exec .stop (part .active .run))).gov.rampStarted = true
    ∧ openKind (withOpen panel (part .active .run)) = some .panel
    ∧ (after (exec .stop (withOpen panel (part .active .run)))).gov.rampStarted = false
    ∧ running.seq.openRecord = some 0 ∧ running.track.records[(0 : Fin 64)].kind = some .gap :=
  ⟨.inr rfl, .inr rfl, .inr rfl, by decide +kernel⟩

/-- A stopped line that START may put in RUN. -/
def ready : State := withRolls .active .empty .standby (at' 1000000 3000000 (part .active .stopped))

/-- The state with one notice pending. -/
def withPending' (i : Fin 40) (s : State) : State :=
  s.withNotices { s.notices with pendingSet := s.notices.pendingSet ||| noticeBit i }

theorem witness_StartOpensTheRestartGap :
    Served ready ∧ payloadOf (exec .start serving) = [20, 1, 0, 0]
    ∧ payloadOf (exec .start (part .listen .stopped)) = [20, 2, 0, 0]
    ∧ payloadOf (exec .start (withPending' 0 ready)) = [20, 3, 0, 0]
    ∧ payloadOf (exec .start (part .active .stopped)) = [20, 4, 0, 0]
    ∧ payloadOf (exec .start (withRolls .active .empty .standby (part .active .stopped))) = [20, 5, 0, 0]
    ∧ payloadOf (exec .start (ready.withTrack { ready.track with free := [] })) = [20, 6, 0, 0]
    ∧ ready.gov.line = .stopped ∧ haltPending ready.notices = false ∧ ready.roll.spindleA.state = .active
    ∧ infeedLost ready = false ∧ beltLost ready = false ∧ ready.track.free = 0 :: (List.finRange 64).tail
    ∧ (after (exec .start ready)).track.records[(0 : Fin 64)] = { gap with outStart := some 3000000 } :=
  ⟨.inr rfl, by decide +kernel⟩

/-- The state with record 0 closed in RUNOUT, its out_start at `p`. -/
def following (p : Position) (s : State) : State :=
  (withOpen { gap with isOpen := false, outStart := some p } s).withSeq s.seq

theorem witness_StartOpensTheRestartGap_behind_a_record :
    Served (following 3000001 ready) ∧ Reaches (belt (following 3000000 ready)) 3000000
    ∧ ¬Reaches (belt (following 3000001 ready)) 3000001
    ∧ ([] ++ [] ++ [] ++ [0] : List (Fin 64)).getLast? = some 0 ∧ (following 3000001 ready).track.runout = [0]
    ∧ statusOf (exec .start (following 3000001 ready)) = some .ok
    ∧ (after (exec .start (following 3000001 ready))).track.records[(1 : Fin 64)].outStart = some 3000001
    ∧ (after (exec .start (following 2999999 ready))).track.records[(1 : Fin 64)].outStart = some 3000000 :=
  ⟨.inr rfl, by unfold Reaches; decide +kernel, by unfold Reaches; decide +kernel, by decide +kernel⟩

/-- A line that stands in HALTED with a splice that matches. -/
def halted : State := withRolls .active .loaded .matching (part .active .halted)

theorem witness_AckHaltLeavesTheHalt :
    Served halted ∧ NothingOpenAtRest halted ∧ halted.gov.line = .halted ∧ halted.gov.command = 0
    ∧ statusOf (exec .ackHalt halted) = some .ok ∧ (after (exec .ackHalt halted)).roll.splice = .ready
    ∧ payloadOf (exec .ackHalt (withPending' 34 halted)) = [20, 2, 0, 0]
    ∧ payloadOf (exec .ackHalt (halted.withGov { halted.gov with command := 1 })) = [20, 1, 0, 0] :=
  ⟨.inr rfl, ⟨by decide +kernel, fun _ => rfl⟩, by decide +kernel⟩

/-- The state with TEST routed to a class. -/
def testRoute (enabled : Bool) (cls : NoticeClass) (s : State) : State :=
  s.withNotices { s.notices with routes := s.notices.routes.set 39 { enabled := enabled, cls := cls, group := 3 } }

theorem witness_RaiseTestRaisesTest :
    Served running ∧ (testRoute false .note running).notices.routes[(39 : Fin 40)].enabled = false
    ∧ (testRoute true .note running).notices.routes[(39 : Fin 40)].cls ≠ .halt
    ∧ (testRoute true .halt running).notices.routes[(39 : Fin 40)].cls = .halt ∧ running.gov.line = .run
    ∧ payloadOf (exec .raiseTest (testRoute false .note running)) = [0]
    ∧ (after (exec .raiseTest (testRoute true .note running))).gov.line = .run
    ∧ (after (exec .raiseTest (testRoute true .halt running))).gov.line = .halted
    ∧ (let s := withRolls .active .loaded .matching (testRoute true .halt (part .active .run))
       s.gov.command = 0 ∧ (after (exec .raiseTest s)).roll.splice = .armed) :=
  ⟨.inr rfl, by decide +kernel⟩

theorem witness_HaltClosesTheOpenRecord : running.seq.openRecord = some 0
    ∧ running.track.records[(0 : Fin 64)].kind ≠ some .panel
    ∧ (withOpen panel ready).seq.openRecord = some 0 ∧ (withOpen panel ready).track.records[(0 : Fin 64)].kind = some .panel
    ∧ (closeHalted (withOpen panel (at' 1020000 3012000 ready))).track.records[(0 : Fin 64)].inLen = some 20000
    ∧ (closeHalted (withOpen panel (at' 1020000 3012000 ready))).track.records[(0 : Fin 64)].outLen = some 12000 := by
  decide +kernel

/-! #### Settings -/

theorem witness_SettingsAndSpeedWrites :
    Served serving ∧ payloadOf (exec (.writeGeometry { geometry with exit := 150000 }) serving) = [1, 2, 0, 0]
    ∧ statusOf (exec (.writeGeometry geometry) serving) = some .ok
    ∧ payloadOf (exec (.writeSpliceSettings 100001 0 0) serving) = [1, 1, 0, 0]
    ∧ statusOf (exec (.writeSpliceSettings 100000 100 60000) serving) = some .ok
    ∧ payloadOf (exec (.writeSpeedLimits { SpeedSettings.reset with trimLimit := 100001 }) serving) = [1, 10, 0, 0]
    ∧ (payloadOf (exec (.writeSpeedLimits { SpeedSettings.reset with vMax := 4999 }) serving)).getD 8 0 = 1
    ∧ statusOf (exec (.setSpeed 1000001) serving) = some .range ∧ statusOf (exec (.setSpeed 10000) serving) = some .ok
    ∧ statusOf (exec (.setSpeed 10001) serving) = some .okClamped :=
  ⟨served_serving, by decide +kernel⟩

theorem witness_ModelChoicesOnIdlingAndPresenceBytes :
    Served serving ∧ serving.pending = [] ∧ statusOf (exec (.collect (.malformed 2)) spread) = some .range
    ∧ ({ plainGroup with inhibit := .malformed 2 } : GroupArgs).inhibit = .malformed 2 :=
  ⟨served_serving, by decide +kernel⟩

theorem witness_ResetLeavesItsColumn :
    Served running ∧ ¬LineStands running.gov ∧ Served halted ∧ LineStands halted.gov
    ∧ statusOf (exec .resetRun running) = some .state ∧ statusOf (exec .resetRun halted) = some .ok
    ∧ (after (exec .resetFull running)).gov.line = .configure :=
  ⟨.inr rfl, by unfold LineStands; decide +kernel, .inr rfl, by unfold LineStands; decide +kernel, by decide +kernel⟩

theorem witness_PortRequests :
    Served serving ∧ Served listening ∧ LineMoves running.gov ∧ ¬LineMoves serving.gov ∧ ¬LineMoves halted.gov
    ∧ listening.port.state = .listen ∧ statusOf (exec .goActive listening) = some .state
    ∧ (after (exec .goActive (part .listen .stopped))).port.state = .active
    ∧ statusOf (exec .goListen running) = some .state ∧ (after (exec .goListen serving)).port.state = .listen
    ∧ (after (exec .resync serving)).port.state = .syncing ∧ statusOf (exec (.identify 2) serving) = some .range
    ∧ (payloadOf (exec (.identify 1) serving)).length = 31 :=
  ⟨served_serving, served_listening, .inl rfl, by unfold LineMoves; decide +kernel, by unfold LineMoves; decide +kernel, by decide +kernel⟩

theorem witness_PortTableWrites :
    Served serving ∧ Served running ∧ running.gov.line ≠ .configure
    ∧ statusOf (exec (.writeWindow 1 3 (.present 1023 1023)) serving) = some .ok
    ∧ statusOf (exec (.writeWindow 1 3 (.present 1023 1024)) serving) = some .range
    ∧ statusOf (exec (.writeWindow 0 0 .absent) serving) = some .ok
    ∧ statusOf (exec (.writeWindow 2 0 .absent) serving) = some .range
    ∧ statusOf (exec (.writeCommandMap 8 (.present 998)) serving) = some .ok
    ∧ statusOf (exec (.writeCommandMap 8 (.present 999)) serving) = some .range
    ∧ statusOf (exec (.writeCommandMap 7 .absent) serving) = some .ok
    ∧ statusOf (exec (.writeCommandMap 9 .absent) serving) = some .range
    ∧ statusOf (exec (.setCycle 4000 64) serving) = some .ok
    ∧ statusOf (exec (.setCycle 249 64) serving) = some .range :=
  ⟨served_serving, .inr rfl, by decide +kernel⟩

theorem witness_ConversionWrites :
    Served serving ∧ entryOf zone3 = some zone3Entry
    ∧ statusOf (exec (.writeConversion 16 zone3) serving) = some .range ∧ entryOf { zone3 with width := 33 } = none
    ∧ entryOf { zone3 with source := 1, group := 1, bitOffset := 0 } ≠ none
    ∧ statusOf (exec (.writeConversion 15 zone3) serving) = some .ok :=
  ⟨served_serving, by decide +kernel⟩

/-- A group with line 0 MANUAL and line 1 TUNNEL_DOOR, unlocked. -/
def doorGroup : GroupArgs :=
  { plainGroup with lock := 1, inhibit := .present 31
                    lines := (plainGroup.lines.set 0 { plainLine with function := 13 }).set 1 { plainLine with function := 4 } }

/-- The state with that group at group 3. -/
def doorSet : State := after (exec (.writeLineSetup 3 doorGroup) serving)

theorem witness_LineRequests :
    Served serving ∧ Served running
    ∧ (∀ i : Fin 8, doorGroup.lines[i].polarity < 2 ∧ doorGroup.lines[i].mode < 3 ∧ doorGroup.lines[i].function < 14)
    ∧ (∀ i j : Fin 8, doorGroup.lines[i].function = doorGroup.lines[j].function →
        i = j ∨ doorGroup.lines[i].function = 0 ∨ doorGroup.lines[i].function = 13)
    ∧ (∀ (i : Fin 8) (l : Fin 32), doorGroup.lines[i].function = functionCode serving.lines.lines[l].function →
        l.val / 8 = 3 ∨ doorGroup.lines[i].function = 0 ∨ doorGroup.lines[i].function = 13)
    ∧ doorSet.lines.lines[(25 : Fin 32)].function = .tunnelDoor
    ∧ statusOf (exec (.writeLineSetup 0 doorGroup) doorSet) = some .range
    ∧ statusOf (exec (.writeLineSetup 4 plainGroup) serving) = some .range
    ∧ statusOf (exec (.setLines []) doorSet) = some .range
    ∧ statusOf (exec (.setLines [(24, 0), (24, 1)]) doorSet) = some .range
    ∧ statusOf (exec (.setLines [(25, 0)]) doorSet) = some .isProtected
    ∧ statusOf (exec (.setLines [(24, 0)]) doorSet) = some .ok ∧ running.gov.line ≠ .configure :=
  ⟨served_serving, .inr rfl, by decide +kernel⟩

/-- Zone 3 of section 8.3 with its role and its span. -/
def zoneFitted : ZoneArgs := { zoneArgs with role := .present 1, spanStart := .present 150000, spanEnd := .present 650000 }

/-- The state with that zone at place 6. -/
def zoned : State := after (exec (.writeZone 6 zoneFitted) serving)

theorem witness_ZoneRequests :
    Served serving ∧ Served zoned ∧ firstFalse (zoneOperands 7 1 150000 650000 zoneFitted) = some 1
    ∧ firstFalse (zoneOperands 6 1 150000 650000 zoneFitted) = none
    ∧ firstFalse (zoneOperands 6 0 0 1 zoneArgs) = none ∧ roleCode .set = 1
    ∧ zoned.tunnel.zones[(5 : Fin 6)].fit = some { role := .set, spanStart := 150000, spanEnd := 650000 }
    ∧ payloadOf (exec (.writeZone 6 { zoneArgs with role := .present 1 }) serving) = [1, 3, 0, 0]
    ∧ statusOf (exec (.zoneEnable 7 0) zoned) = some .range ∧ statusOf (exec (.zoneEnable 1 0) zoned) = some .absent
    ∧ (after (exec (.zoneEnable 6 0) zoned)).tunnel.zones[(5 : Fin 6)].state = .warming :=
  ⟨served_serving, .inr rfl, by decide +kernel⟩

/-- A part whose lines 0 and 1 read READY_A and READY_B, both active. -/
def readyLines : State :=
  serving.withLines { serving.lines with
    lines := (serving.lines.lines.set 0 { inverting := true, mode := .live, function := .readyA, manual := false }).set 1
      { inverting := true, mode := .live, function := .readyB, manual := false } }

theorem witness_SpindleRequests :
    Served readyLines ∧ LineStands serving.gov ∧ inputReads readyLines (readyInput .a) = true
    ∧ inputReads serving (readyInput .a) = false ∧ (spindle readyLines.roll .b).state = .empty
    ∧ statusOf (exec (.loadRoll 2 77 9000 80 0) readyLines) = some .range
    ∧ payloadOf (exec (.loadRoll 1 77 9000 80 0) readyLines) = [1]
    ∧ payloadOf (exec (.loadRoll 0 77 9000 80 1) readyLines) = [2]
    ∧ statusOf (exec (.loadRoll 0 77 9000 80 0) serving) = some .state
    ∧ statusOf (exec (.unloadRoll 2) serving) = some .range ∧ statusOf (exec (.unloadRoll 0) serving) = some .state
    ∧ statusOf (exec (.unloadRoll 0) running) = some .state
    ∧ (after (exec (.unloadRoll 0) (withRolls .active .loaded .ready serving))).roll.budget = 0
    ∧ (after (exec (.unloadRoll 1) (withRolls .active .expired .failed serving))).roll.budget = 2500000
    ∧ (after (exec .spliceCancel (withRolls .active .loaded .armed serving))).roll.splice = .ready
    ∧ statusOf (exec .spliceCancel serving) = some .state :=
  ⟨.inr rfl, .inl rfl, by decide +kernel⟩

theorem witness_NoticeRequests :
    Served serving ∧ statusOf (exec (.writeNoticeRoute 40 0 0 0) serving) = some .range ∧ classCode .halt = 2
    ∧ statusOf (exec (.writeNoticeRoute 34 1 2 3) serving) = some .isProtected
    ∧ statusOf (exec (.writeNoticeRoute 34 0 2 3) serving) = some .ok
    ∧ payloadOf (exec (.writeNoticeRoute 39 1 0 3) serving) = [0, 0, 3, 0]
    ∧ payloadOf (exec (.clearNotices (noticeBit 39)) (withPending' 39 serving)) = [0, 0, 0, 0, 128, 0, 0, 0, 0, 0]
    ∧ payloadOf (exec (.setReportMask 0) serving) = [255, 255, 255, 255, 255] :=
  ⟨served_serving, by decide +kernel⟩

/-! ### The hypotheses of the statements can be met: frames and events -/

/-- A frame that comes no later than the silence deadline is taken in time. -/
theorem in_time {rx : Reception} {s : State} (d : Nat) (h : s.port.deadline = some d) (h' : s.timer + rx.elapsed ≤ d) :
    TakenInTime rx s := fun e he => by
  cases h.symm.trans he
  exact h'

/-- The silence deadline still stands when the timer reaches it. -/
theorem good_in_time : TakenInTime goodRx serving := in_time 4000 rfl (by decide)

theorem witness_BadFrameIsCountedAndPassedOn :
    TakenInTime { badRx with elapsed := 4000 } serving ∧ Served serving ∧ Served (withCounts 0 2 0 serving)
    ∧ frameFinding serving.port rawFrame = some .crc ∧ (part .offline .configure).port.state = .offline
    ∧ frameFinding (part .offline .configure).port rawFrame = some .crc
    ∧ frameFinding (withCounts 7 0 0 (part .syncing .configure)).port rawFrame = some .crc
    ∧ frameFinding (withCounts 0 0 63 (part .fault .configure)).port rawFrame = some .crc ∧ serving.port.runCount < 2
    ∧ 2 ≤ (withCounts 0 2 0 serving).port.runCount
    ∧ (after (exec (.cycleFrame badRx) (withCounts 0 1 0 serving))).port.state = .active
    ∧ (after (exec (.cycleFrame badRx) (withCounts 0 2 0 serving))).port.state = .fault :=
  ⟨in_time 4000 rfl (by decide), .inr rfl, .inr rfl, by decide +kernel⟩

theorem witness_GoodFrameOutsideListenAndActive :
    ¬Served (part .offline .configure) ∧ ¬Served (withCounts 7 0 0 (part .syncing .configure))
    ∧ ¬Served (withCounts 0 0 63 (part .fault .configure))
    ∧ frameFinding (part .offline .configure).port goodRx.frame = none
    ∧ cycleGap (withCounts 7 0 0 (part .syncing .configure)).port goodRx.frame = some 1
    ∧ (after (exec (.cycleFrame goodRx) (withCounts 6 0 0 (part .syncing .configure)))).port.state = .syncing
    ∧ (after (exec (.cycleFrame goodRx) (withCounts 0 0 62 (part .fault .configure)))).port.state = .fault
    ∧ (after (exec (.cycleFrame goodRx) (part .offline .configure))).port.state = .syncing :=
  ⟨not_served rfl, not_served rfl, not_served rfl, by decide +kernel⟩

/-- A frame two cycles after the last one. -/
def skipping : Reception := receiving (sound { rawFrame with cycle := 8 })

theorem witness_MissedCyclesRaiseTheirNotice : Missed (withCounts 0 0 0 listening).port skipping.frame
    ∧ Missed (withCounts 7 0 0 (part .syncing .configure)).port skipping.frame
    ∧ TakenInTime skipping (withCounts 0 0 0 listening)
    ∧ frameFinding (withCounts 0 0 0 listening).port skipping.frame = none
    ∧ frameFinding (withCounts 7 0 0 (part .syncing .configure)).port skipping.frame = none
    ∧ isPending (after (exec (.cycleFrame skipping) (withCounts 0 0 0 listening))).notices (noticeIndex .cycleMissed) = true
    ∧ isPending (after (exec (.cycleFrame skipping) (withCounts 7 0 0 (part .syncing .configure)))).notices
        (noticeIndex .cycleMissed) = true :=
  ⟨⟨_, rfl, .inl (by decide)⟩, ⟨_, rfl, .inl (by decide)⟩, in_time 4000 rfl (by decide), by decide +kernel⟩

/-- A line in HALTED above 0, in LISTEN. -/
def haltedListening : State :=
  withOpen gap ((part .listen .halted).withGov { (part .listen .halted).gov with command := 900 })

theorem witness_ListenArrivalWritesStatusAlone :
    TakenInTime goodRx haltedListening ∧ NoRequest goodRx haltedListening ∧ haltedListening.port.state = .listen
    ∧ frameFinding haltedListening.port goodRx.frame = none
    ∧ (after (exec (.cycleFrame goodRx) haltedListening)).gov.command = 0
    ∧ (after (exec (.cycleFrame goodRx) haltedListening)).seq.openRecord = none
    ∧ (after (exec (.cycleFrame goodRx) listening)).gov = listening.gov :=
  ⟨in_time 4000 rfl (by decide), .inr rfl, by decide +kernel⟩

theorem witness_FrameWithoutRequestKeepsSettings : NoRequest goodRx serving
    ∧ NoRequest (receiving { rawFrame with target := 1, code := 37 }) serving :=
  ⟨.inr rfl, .inl (by decide)⟩

theorem witness_SlotBytesOutsideWriteWindowsStand :
    (∃ t, exec (.cycleFrame goodRx) soundLine = .next t) ∧ (∃ t, exec (.cycleFrame badRx) State.reset = .next t)
    ∧ (∀ (i : Fin 4) (w : Window), soundLine.port.writeWindows[i] = some w → ¬(w.base ≤ 26 ∧ 26 ≤ w.limit))
    ∧ ((after (exec (.cycleFrame goodRx) soundLine)).downstream.map fun f => f.slots.drop 26) = some (List.replicate 38 0)
    ∧ ((after (exec (.cycleFrame goodRx) soundLine)).downstream.map fun f => f.slots.getD 12 0) = some 0
    ∧ ((after (exec (.cycleFrame goodRx) soundLine)).downstream.map fun f => f.slots.getD 16 0) = some 64 := by
  refine ⟨⟨_, rfl⟩, ⟨_, rfl⟩, fun i w h => ?_, by decide +kernel, by decide +kernel, by decide +kernel⟩
  have hb : ∀ i : Fin 4, ((soundLine.port.writeWindows[i].map fun w => decide (w.base ≤ 26 ∧ 26 ≤ w.limit)).getD false) = false := by
    decide +kernel
  have := hb i
  rw [h] at this
  simpa using this

/-- The reception of a frame that carries COLLECT with expected index 3 for station 0. -/
def collectRx : Reception :=
  receiving (sound { rawFrame with code := 26, tag := 9, payloadLength := 2, payload := ((Vector.replicate 192 0).set 0 1).set 1 3 })

theorem witness_FrameCarriesOutItsRequest :
    TakenInTime collectRx spread ∧ Served spread ∧ frameFinding spread.port collectRx.frame = none
    ∧ wellFormed (.collect (.present 3)) = true ∧ Decode.requestBytes (.collect (.present 3)) = some (26, [1, 3])
    ∧ collectRx.frame.target.toNat = spread.port.address.toNat ∧ collectRx.frame.code = byte 26
    ∧ collectRx.frame.payload.toList.take collectRx.frame.payloadLength.toNat = [1, 3]
    ∧ ((after (exec (.cycleFrame collectRx) spread)).downstream.map fun f => (f.replyStatus, f.tagEcho, f.replyLength)) =
        some (0, 9, 58) :=
  ⟨in_time 4000 rfl (by decide), .inr rfl, by decide +kernel⟩

theorem witness_RequestPayloadsReadBack : wellFormed (.writePattern 12 args12) = true
    ∧ ((Decode.requestBytes (.writePattern 12 args12)).map fun x => (x.1, x.2.length)) = some (14, 53) := by
  decide +kernel

theorem witness_CommandFieldLayout_frame : rawFrame.slots.length = rawFrame.slotLength.toNat
    ∧ frameFinding serving.port (sound rawFrame) = none ∧ (wireBytes (sound rawFrame)).length = 471
    ∧ (wireBytes (sound rawFrame)).drop 467 = four (sound rawFrame).crc.toNat
    ∧ ({ rawFrame with slotLength := 65 } : Frame).slots.length ≠ 65
    ∧ frameFinding State.reset.port (sound { rawFrame with slotLength := 65 }) = some .length := by decide +kernel

/-- A stroke. -/
def stroke (n : Nat) : Stroke :=
  { position := 5, depth := 258, actions := { ActionSet.empty with knife := true, mark := true }, fold := n, serial := 41 }

/-- A part with three strokes, a paste of spindle B and a cut entry. -/
def commanding : State :=
  ((serving.withFolds { serving.folds with strokes := [stroke 1, stroke 2, stroke 3] }).withRoll
    { serving.roll with paste := some .b }).withTakeOff
    { serving.takeOff with cutEntry := some { position := 260, record := 63, disposition := .reject } }

theorem witness_CommandFieldLayout : commanding.folds.strokes.length ≤ 4 ∧ commanding.roll.paste = some .b
    ∧ serving.roll.paste = none ∧ serving.takeOff.cutEntry = none ∧ commanding.takeOff.cutEntry.isSome = true
    ∧ (fieldBytes commanding 0).drop 18 = [5, 0, 0, 0, 2, 1, 9, 3, 41, 0, 0, 0, 0, 0, 0, 0, 0, 0]
    ∧ fieldBytes commanding 5 = [2, 1] ∧ fieldBytes commanding 7 = [4, 1, 0, 0, 63, 2] := by decide +kernel

theorem witness_CountsBringThePortToListen :
    frameFinding (withCounts 7 0 0 (part .syncing .configure)).port goodRx.frame = none
    ∧ cycleGap (withCounts 7 0 0 (part .syncing .configure)).port goodRx.frame = some 1
    ∧ (withCounts 7 0 0 (part .syncing .configure)).port.syncCount = 7
    ∧ frameFinding (withCounts 0 0 63 (part .fault .configure)).port goodRx.frame = none
    ∧ (withCounts 0 0 63 (part .fault .configure)).port.recoveryCount = 63
    ∧ (after (exec (.syncComplete goodRx) (withCounts 7 0 0 (part .syncing .configure)))).port.state = .listen
    ∧ (after (exec (.faultRecovery goodRx) (withCounts 0 0 63 (part .fault .configure)))).port.state = .listen := by
  decide +kernel

theorem fixed_running : FixedNoticesHalt running := by unfold FixedNoticesHalt; decide +kernel

theorem witness_FaultsHaltTheLine :
    Served (withCounts 0 2 0 running) ∧ FixedNoticesHalt (withCounts 0 2 0 running)
    ∧ TakenInTime badRx (withCounts 0 2 0 running) ∧ frameFinding (withCounts 0 2 0 running).port rawFrame = some .crc
    ∧ running.port.deadline = some 4000 ∧ running.gov.line = .run ∧ serving.gov.line ≠ .run
    ∧ serving.gov.line ≠ .stopping
    ∧ (after (exec (.badFrameRunFault badRx) (withCounts 0 2 0 running))).gov.line = .halted
    ∧ (after (exec .silenceTimeout running)).gov.line = .halted :=
  ⟨.inr rfl, fixed_running, in_time 4000 rfl (by decide), by decide +kernel⟩

/-- A part whose dancer quantity is one frame from LOST. -/
def stale (p : PortState) : State :=
  (part p .configure).withConverter
    { serving.converter with
      entries := serving.converter.entries.set 6 { encoder with enabled := true, validity := some 63, staleLimit := 3 }
      quantities := serving.converter.quantities.set 6 { valid 500 with age := 3 } }

theorem witness_StaleQuantityEntersLost :
    TakenInTime goodRx (stale .active) ∧ ¬Served (stale .fault) ∧ NoRequest goodRx (stale .active)
    ∧ (stale .active).converter.quantities[(6 : Fin 16)].lost = false
    ∧ (stale .active).converter.entries[(6 : Fin 16)].staleLimit <
        min ((stale .active).converter.quantities[(6 : Fin 16)].age + 1) 65535
    ∧ frameFinding (stale .active).port rawFrame ≠ none
    ∧ decodedSample (doorTest (latchLines (countArrival (examineGood goodRx.frame (takeIn goodRx (stale .active))))))
        goodRx.frame.slots (stale .active).converter.entries[(6 : Fin 16)] = none
    ∧ (serving.converter.entries[(0 : Fin 16)].enabled = false ∧ serving.converter.entries[(0 : Fin 16)].staleLimit = 1)
    ∧ (after (exec (.quantityStale 6 goodRx) (stale .active))).converter.quantities[(6 : Fin 16)].lost = true
    ∧ isPending (after (exec (.quantityStale 6 goodRx) (stale .active))).notices (noticeIndex .dancerLost) = true :=
  ⟨in_time 4000 rfl (by decide), not_served rfl, .inr rfl, by decide +kernel⟩

theorem witness_StaleQuantityEntersLost_with_a_request :
    TakenInTime collectRx (stale .active) ∧ frameFinding (stale .active).port collectRx.frame = none
    ∧ collectRx.frame.target.toNat = (stale .active).port.address.toNat
    ∧ decodedSample (doorTest (latchLines (countArrival (examineGood collectRx.frame (takeIn collectRx (stale .active))))))
        collectRx.frame.slots (stale .active).converter.entries[(6 : Fin 16)] = none
    ∧ (after (exec (.quantityStale 6 collectRx) (stale .active))).converter.quantities[(6 : Fin 16)].lost = true
    ∧ statusOf (exec (.quantityStale 6 collectRx) (stale .active)) = some .empty :=
  ⟨in_time 4000 rfl (by decide), by decide +kernel⟩

/-- Pattern 7 in work: its context with 5000 placed, and its entry 1 requested. -/
def folding : State :=
  (with7 running).withFolds
    { running.folds with
      requests := [{ serial := 41, entry := 1, kind := some FoldKind.table[1], abandoned := false }]
      context := some { serial := 41, record := 0, pattern := 6, start := 1000000, offset := 5000 } }

theorem witness_FoldCompletionAppendsOrDiscards : running.folds.requests = []
    ∧ folding.folds.requests = { serial := 41, entry := 1, kind := some FoldKind.table[1], abandoned := false } :: []
    ∧ folding.folds.context = some { serial := 41, record := 0, pattern := 6, start := 1000000, offset := 5000 }
    ∧ folding.store.places[(6 : Fin 48)] = some pattern7
    ∧ (entrySpec pattern7 1).isSome = true
    ∧ ((after (exec .foldCompletion folding)).folds.queue.map fun e => (e.position, e.length, e.ratio)) = [(1005000, 4000, 8192)]
    ∧ (let s := folding.withFolds { folding.folds with context := none }
       s.folds.context = none ∧ (after (exec .foldCompletion s)).folds.queue = []) := by decide +kernel

theorem witness_FoldCompletionAppendsOrDiscards_abandoned :
    (let s := folding.withFolds { folding.folds with requests := folding.folds.requests.map fun r => { r with abandoned := true } }
     s.folds.requests = { serial := 41, entry := 1, kind := some FoldKind.table[1], abandoned := true } :: []
       ∧ s.folds.context.isSome = true ∧ (after (exec .foldCompletion s)).folds.queue = []
       ∧ (after (exec .foldCompletion s)).folds.requests = []) := by decide +kernel

theorem witness_FoldCompletionAppendsOrDiscards_issues : folding.seq.cursor = none
    ∧ (let s := folding.withSeq { folding.seq with cursor := some 2 }
       s.seq.cursor = some 2 ∧ (after (exec .foldCompletion s)).folds.requests = issuedFrom s
           { serial := 41, record := 0, pattern := 6, start := 1000000, offset := 5000 } pattern7 2 8
         ∧ (after (exec .foldCompletion s)).seq.cursor = some 10) := by decide +kernel

/-- A line whose splice matches, with roll-change items of one's own. -/
def splicing (x : SpliceState) (matchCount attempts : Nat) (since : Int) : State :=
  let s := withValue 5 0 (withRolls .active .loaded x running)
  s.withRoll { s.roll with matchCount := matchCount, attempts := attempts, phase := some (BitVec.ofInt 32 (5000 - since)) }

theorem active_arrival (x : SpliceState) (m a : Nat) (n : Int) : ActiveArrival goodRx (splicing x m a n) :=
  ⟨in_time 4000 rfl (show (1000 : Nat) ≤ 4000 by decide), rfl,
   show frameFinding running.port goodRx.frame = none by decide +kernel, .inr rfl⟩

theorem witness_EventsOfAnActiveArrival_match :
    ActiveArrival goodRx (splicing .matching 9 0 1000) ∧ (splicing .matching 9 0 1000).roll.splice = .matching
    ∧ (let x := beforeSplice goodRx (splicing .matching 9 0 1000)
       x.roll.splice = .matching ∧ 9 ≤ x.roll.matchCount ∧ speedMatches x = true)
    ∧ (after (exec (.matchComplete goodRx) (splicing .matching 9 0 1000))).roll.splice = .paste :=
  ⟨active_arrival .., by decide +kernel⟩

theorem witness_EventsOfAnActiveArrival_timeout :
    ActiveArrival goodRx (splicing .matching 8 2 8000001) ∧ ActiveArrival goodRx (splicing .paste 10 0 3000001)
    ∧ (let x := beforeSplice goodRx (splicing .matching 8 2 8000001)
       x.roll.splice = .matching ∧ x.roll.matchCount = 8 ∧ x.roll.attempts = 2 ∧ x.roll.phase = some (BitVec.ofInt 32 (-7995001))
         ∧ x.roll.settings.matchTimeout * 1000 < (goodRx.frame.timestamp - BitVec.ofInt 32 (-7995001)).toNat)
    ∧ (after (exec (.matchTimeout goodRx) (splicing .matching 8 2 8000001))).roll.splice = .failed
    ∧ (after (exec (.matchTimeout goodRx) (splicing .matching 8 1 8000001))).roll.splice = .armed
    ∧ inputReads (beforeSplice goodRx (splicing .paste 10 0 3000001)) .pasterConfirm = false
    ∧ (after (exec (.pasteTimeout goodRx) (splicing .paste 10 0 3000001))).roll.splice = .failed
    ∧ (after (exec (.pasteTimeout goodRx) (splicing .paste 10 0 3000000))).roll.splice = .paste :=
  ⟨active_arrival .., active_arrival .., by decide +kernel⟩

/-- At its timeout to the µs a phase goes on. -/
theorem witness_EventsOfAnActiveArrival_within :
    (let s := splicing .matching 8 1 8000000
     s.roll.phase = some (BitVec.ofInt 32 (-7995000))
       ∧ (5000 - BitVec.ofInt 32 (-7995000) : BitVec 32).toNat = 8000000 ∧ s.roll.settings.matchTimeout = 8000
       ∧ speedMatches (s.withGov { s.gov with vIn := 9000 }) = false
       ∧ (spliceWork 5000 s).roll = { s.roll with matchCount := 9 })
    ∧ (let s := splicing .paste 10 0 3000000
       s.roll.settings.pasteTimeout = 3000 ∧ inputReads s .pasterConfirm = false
         ∧ spliceWork 5000 s = s) := by decide +kernel

/-- A running line with zone 1 in a state, at the given temperature, and its trim at its limit for 49 arrivals. -/
def heating (z : ZoneState) (progress temperature : Nat) : State :=
  let s := withValue 8 temperature (withValue 6 1000 running)
  let x : Zone := { Zone.reset with state := z, progress := progress, settings := zoneSettingsOf zoneArgs }
  (s.withTunnel { s.tunnel with zones := s.tunnel.zones.set 0 x }).withGov
    { s.gov with trimCount := 49, settings := { s.gov.settings with kp := 16, trimLimit := 100 } }

theorem witness_EventsOfAnActiveArrival_counts :
    ActiveArrival goodRx (heating .warming 2 1780) ∧ (heating .warming 2 1780).tunnel.zones[(0 : Fin 6)].progress = 2
    ∧ (quantity (sampled goodRx (heating .warming 2 1780)) (zoneQuantity 0)).lost = false
    ∧ (quantity (sampled goodRx (heating .warming 2 1780)) (zoneQuantity 0)).value = 1780
    ∧ (after (exec (.zoneSettled 0 goodRx) (heating .warming 2 1780))).tunnel.zones[(0 : Fin 6)].state = .inBand
    ∧ (after (exec (.zoneSettled 0 goodRx) (heating .warming 1 1780))).tunnel.zones[(0 : Fin 6)].state = .warming
    ∧ (let y := beforeInfeed goodRx (heating .warming 2 1780)
       y.gov.settings.trimLimit = 100 ∧ (dancerTrim y.gov (quantity y 6)).natAbs = 100)
    ∧ isPending (after (exec (.trimAtLimitCount goodRx) (heating .warming 2 1780))).notices (noticeIndex .dancerLimit) = true :=
  ⟨⟨in_time 4000 rfl (by decide), rfl, by decide +kernel, .inr rfl⟩, by decide +kernel⟩

/-- A LOST zone 1 whose settle count is 1. -/
def cold : State :=
  let s := heating .lost 0 1780
  let z := s.tunnel.zones[(0 : Fin 6)]
  s.withTunnel { s.tunnel with zones := s.tunnel.zones.set 0 { z with settings := { z.settings with settleCount := 1 } } }

theorem witness_EventsOfAnActiveArrival_lost : ActiveArrival goodRx cold
    ∧ cold.tunnel.zones[(0 : Fin 6)].state = .lost ∧ cold.tunnel.zones[(0 : Fin 6)].settings.settleCount ≤ 1
    ∧ (quantity (sampled goodRx cold) (zoneQuantity 0)).lost = false
    ∧ (quantity (sampled goodRx cold) (zoneQuantity 0)).value = 1780
    ∧ (after (exec (.zoneSettled 0 goodRx) cold)).tunnel.zones[(0 : Fin 6)].state = .inBand :=
  ⟨⟨in_time 4000 rfl (by decide), rfl, by decide +kernel, .inr rfl⟩, by decide +kernel⟩

/-! ### The hypotheses of the statements can be met: the work of an arrival, and the laws -/

theorem witness_SamplesDecodeAndAddUp : 140 < 2 ^ 8 ∧ (7 : Nat) < 8 ∧ (1 : Fin 16).val < 2
    ∧ (valid 7).lastRaw = some 7 ∧ 1 ≤ encoder.width ∧ 1 ≤ encoder.denominator := by decide

/-- ZONE3_TEMP held back by its maximum change, a state that enters 2, and the encoder's start sample (section 2.8). -/
theorem witness_SamplesDecodeAndAddUp_absolute_and_start : 2 ≤ (10 : Fin 16).val ∧ 1 ≤ zone3Entry.denominator
    ∧ takeSample 10 zone3Entry (valid 1881) 19500 = ({ valid 1931 with lastRaw := some 19500 }, [.sampleFiltered])
    ∧ (takeSample 14 ConversionEntry.reset (valid 1) 2).2 = [.knifeFault]
    ∧ (takeSample 14 ConversionEntry.reset (valid 2) 2).2 = []
    ∧ (1 : Fin 16).val < 2 ∧ Quantity.reset.lastRaw = none
    ∧ (takeSample 1 encoder Quantity.reset 16777190).1.value = 10485744 := by decide +kernel

theorem witness_LinesLatchAndTheDoorIsTested : groupOf 31 = 3 ∧ lineWith doorSet .tunnelDoor = some 25
    ∧ (let s := doorSet.withGov { doorSet.gov with line := .run }
       linePresented s 25 = false ∧ s.lines.door = none
         ∧ isPending (doorTest s).notices (noticeIndex .doorOpen) = true)
    ∧ linePresented doorSet 25 = false ∧ doorSet.gov.line = .configure := by decide +kernel

theorem witness_EntriesAddUpToTheTotals :
    pattern7.totals = computeTotals FoldKind.table pattern7.leadIn pattern7.leadOut pattern7.groups
    ∧ ((groups7.map FoldGroup.count).all fun n => decide (2 ≤ n)) = true
    ∧ (groups7.map fun g => calcDepth g (kindAt FoldKind.table g.kind) 1) = [1100, 800] := by decide +kernel

/-- A line with one entry of the stroke queue at `p` and one at `q`. -/
def stroking (p q : Position) : State :=
  let e : StrokeEntry := { position := p, length := 4000, ratio := 8192, fold := some { depth := 1000, multiplier := 1, actions := { ActionSet.empty with knife := true }, number := 1 }, serial := 41, record := 0, emitted := false }
  running.withFolds { running.folds with queue := [e, { e with position := q, ratio := 9830 }] }

theorem witness_EntriesPassAndAreEmitted :
    reached (infeed (stroking 1000500 1004500)) 1000500 = true
    ∧ reached (infeed (stroking 1000501 1004500)) 1000501 = false
    ∧ (passing 2 (stroking 1000500 1004500)).folds.ratio = 8192
    ∧ (passing 2 (stroking 1000500 1004500)).gov.line = (stroking 1000500 1004500).gov.line
    ∧ passing 2 (stroking 1000501 1004500) = stroking 1000501 1004500
    ∧ ((stroking 1030500 1030501).folds.queue.map (dueStroke (stroking 1030500 1030501))) = [true, false] := by
  decide +kernel

/-- The state with one notice routed to HALT. -/
def halting (n : Notice) (s : State) : State :=
  s.withNotices { s.notices with routes := s.notices.routes.set (noticeIndex n) { enabled := true, cls := .halt, group := 0 } }

/-- Both entries pass: the ratio is the last one's. A late entry that halts the line empties the queue. -/
theorem witness_EntriesPassAndAreEmitted_last_and_halt :
    (let s := stroking 1000499 1000500
     s.folds.queue = s.folds.queue.take 1 ++ s.folds.queue.drop 1 ++ (passing 2 s).folds.queue
       ∧ (passing 2 s).folds.queue = [] ∧ (passing 2 s).folds.ratio = 9830 ∧ (passing 2 s).gov.line = s.gov.line)
    ∧ (let s := halting .foldLate (stroking 1000500 1004500)
       (passing 2 s).gov.line = .halted ∧ (passing 2 s).folds.queue = [] ∧ (passing 2 s).folds.ratio = 4096) := by
  decide +kernel

/-- A line in RUN that may open a panel of pattern 7. -/
def feeding : State :=
  let s := with7 (withRolls .active .empty .standby (at' 1000500 3000500 (part .active .run)))
  s.withSeq { s.seq with current := some { run := run7, remaining := 1 } }

theorem witness_PanelOpensWhenAllConditionsHold : (panelDecision feeding).2.1 = .panel
    ∧ feeding.track.free = 0 :: (List.finRange 64).tail ∧ feeding.seq.current = some { run := run7, remaining := 1 }
    ∧ feeding.store.places[(6 : Fin 48)] = some pattern7 ∧ (.orderEmpty ∈ (openPanel feeding).2) := by decide +kernel

/-- The opened panel starts at BELT_POS, or where the record before it starts when that lies further on (R107). -/
theorem witness_PanelOpensWhenAllConditionsHold_out_start :
    (openPanel feeding).1.track.records[(0 : Fin 64)].outStart = some 3000500
    ∧ ¬Reaches (belt (following 3000501 feeding)) 3000501 ∧ Reaches (belt (following 3000500 feeding)) 3000500
    ∧ (openPanel (following 3000501 feeding)).1.track.records[(1 : Fin 64)].outStart = some 3000501
    ∧ (openPanel (following 3000499 feeding)).1.track.records[(1 : Fin 64)].outStart = some 3000500 :=
  ⟨by decide +kernel, by unfold Reaches; decide +kernel, by unfold Reaches; decide +kernel, by decide +kernel⟩

/-- A part with a closed record of 31000 on the belt from 3000000, in TUNNEL and in EXIT, and 47 records in DONE. -/
def cutting (b : Nat) : State :=
  let s := at' 1000500 b (part .active .stopped)
  let r : TrackRecord := { panel with isOpen := false, disposition := some .reject }
  s.withTrack { s.track with records := (s.track.records.set 0 r).set 1 r, tunnel := [0], exit := [1]
                             free := ((List.finRange 64).drop 2).take 15, done := (List.finRange 64).drop 17 }

theorem witness_ExitMovesAndCuts : (cutting 0).track.done.length = 47
    ∧ (cutting 0).track.records[(1 : Fin 64)].disposition = some .reject
    ∧ (cutting 0).track.records[(1 : Fin 64)].cutEmitted = false
    ∧ (leaveTunnel 0 [] (cutting 0)).track.records[(0 : Fin 64)].disposition = some .good
    ∧ (cuts 1 (cutting 3731000)).track.exit = [] ∧ (cuts 1 (cutting 3730999)).track.exit = [1]
    ∧ serving.track.exit = [] ∧ beltLost (cutting 3729000) = false
    ∧ (formCutEntry (cutting 3728999)).takeOff.cutEntry = none
    ∧ (formCutEntry (cutting 3729000)).takeOff.cutEntry = some { position := 3731000, record := 1, disposition := .reject } := by
  decide +kernel

/-- The state with zone 6 as the SET section from 150000 to 650000. -/
def withSetSection (s : State) : State := s.withTunnel { s.tunnel with zones := zoned.tunnel.zones }

theorem witness_ExitMovesAndCuts_moves :
    (let s := following 3000000 (at' 1000500 3150000 (part .active .stopped))
     beltLost s = false ∧ (entryWork s).track.runout = [] ∧ (entryWork s).track.tunnel = [0])
    ∧ (let s := following 3000000 (at' 1000500 3149999 (part .active .stopped))
       (entryWork s).track.runout = [0] ∧ (entryWork s).track.tunnel = [])
    ∧ (cutting 3681000).seq.openRecord = none ∧ (exitWork 5000 (cutting 3681000)).track.exit = [1, 0]
    ∧ (exitWork 5000 (cutting 3680999)).track.tunnel = [0]
    ∧ setSection (withSetSection (cutting 3681000)).tunnel = some (150000, 650000)
    ∧ (exitWork 5000 (withSetSection (cutting 3681000))).track.records[(0 : Fin 64)].transits =
        { leadEntry := some 5000, leadExit := some 5000, trailEntry := some 5000, trailExit := some 5000 } := by
  decide +kernel

/-- The dwell limit of pattern 7 under a SET section of 500000: floor(500000 × 10 / 120). -/
theorem dwell_of_pattern7 : LimitInForce (withSetSection feeding) .dwell 41666 := by
  refine .inr (.inl ⟨rfl, 150000, 650000, pattern7, ⟨⟨5, ⟨.set, 150000, 650000⟩, by decide +kernel⟩,
    ⟨5, ⟨.set, 150000, 650000⟩, by decide +kernel⟩, fun z f h _ => ?_⟩, .inl (.inl ⟨_, rfl, by decide, rfl⟩), ?_, by decide +kernel⟩)
  · have hz : ∀ z : Fin 6, ((zoned.tunnel.zones[z].fit.map fun f => decide (150000 ≤ f.spanStart ∧ f.spanEnd ≤ 650000)).getD true) = true := by
      decide +kernel
    have := hz z
    rw [show zoned.tunnel.zones[z].fit = some f from h] at this
    simpa using this
  · rintro q ((⟨c, hc, -, hq⟩ | ⟨hn, -⟩) | ⟨i, hi, -⟩)
    · obtain rfl : _ = c := Option.some.inj hc
      obtain rfl : pattern7 = q := Option.some.inj hq
      exact Nat.le_refl _
    · exact absurd (hn _ rfl) (by decide)
    · rw [show (withSetSection feeding).track.runout ++ (withSetSection feeding).track.tunnel = [] by decide +kernel] at hi
      cases hi

/-- A PANEL that closes at an arrival with an entry of ratio 9830 still to pass, and no run to follow it. -/
def emptying : State :=
  let s := withOpen panel (at' 1049400 3031000 running)
  s.withFolds { s.folds with queue := [{ position := 1049000, length := 400, ratio := 9830, fold := none, serial := 41, record := 0, emitted := false }] }

/-- A GAP opens after the passing: the ratio in force is 4096, but the infeed speed takes 9830 (R69, R136):
(1100 × 9830 + 2048) div 4096 = 2640. -/
theorem witness_SpeedsFollowTheLimits_passed_ratio :
    ActiveArrival goodRx emptying ∧ infeedLost (sampled goodRx emptying) = false
    ∧ (passing (sampled goodRx emptying).folds.queue.length (sampled goodRx emptying)).folds.ratio = 9830
    ∧ (beforeInfeed goodRx emptying).gov.command = 1100
    ∧ (let t := after (exec (.cycleFrame goodRx) emptying)
       openKind t = some .gap ∧ t.folds.ratio = 4096 ∧ t.gov.vIn = 2640) :=
  ⟨⟨in_time 4000 rfl (by decide), rfl, by decide +kernel, .inr rfl⟩, by decide +kernel⟩

theorem witness_SpeedsFollowTheLimits_in_force :
    LimitInForce running .set 5000 ∧ LimitInForce (splicing .matching 0 0 0) .splice 5000
    ∧ LimitInForce (withPending' 4 running) .degrade 5000
    ∧ ((compose (splicing .matching 0 0 0)).gov.target, (compose (splicing .matching 0 0 0)).gov.source) = (5000, .set)
    ∧ (let s := (withSetSection feeding).withGov { feeding.gov with vSet := 50000, settings := { feeding.gov.settings with vInMax := 200000 } }
       ((compose s).gov.target, (compose s).gov.source) = (41666, .dwell))
    ∧ (let s := halting .feedLimiting (running.withGov { running.gov with settings := { running.gov.settings with vInMax := 1000 } })
       (compose s).gov.line = .halted ∧ (compose s).gov.target = 0) :=
  ⟨.inl ⟨rfl, rfl⟩, .inr (.inr (.inr (.inl ⟨rfl, rfl, .inl rfl⟩))), .inr (.inr (.inr (.inr ⟨rfl, rfl, by decide +kernel⟩))),
    by decide +kernel⟩

theorem witness_SpeedsFollowTheLimits :
    running.gov.line = .run ∧ (compose running).gov.line = running.gov.line
    ∧ ¬(halted.gov.line = .run ∨ (halted.gov.line = .stopping ∧ halted.gov.rampStarted = false))
    ∧ running.gov.command ≤ running.gov.settings.vMax
    ∧ ((compose running).gov.command ≤ (compose running).gov.target
        ∧ (compose running).gov.target ≤ (compose running).gov.settings.vMax)
    ∧ haltedListening.gov.target ≤ haltedListening.gov.command
    ∧ ((quantity running 6).lost = true ∧ (quantity (heating .warming 0 0) 6).lost = false
        ∧ (heating .warming 0 0).gov.command ≠ 0) := by decide +kernel

/-- A zone of section 8.3 in a state. -/
def zoneIn (z : ZoneState) : Zone := { Zone.reset with state := z, settings := zoneSettingsOf zoneArgs }

theorem witness_ZonesAndRollsFollowTheirRules :
    (zoneIn .inBand).settings.bandLow = 1780 ∧ (zoneIn .inBand).settings.bandHigh = 1820
    ∧ (zoneUpdate (zoneIn .inBand) (valid 1769)).1.state = .low ∧ (zoneUpdate (zoneIn .inBand) (valid 1770)).1.state = .inBand
    ∧ (zoneUpdate (zoneIn .low) (valid 1831)).1.state = .high ∧ (zoneUpdate (zoneIn .low) Quantity.reset).1.state = .lost
    ∧ zoneIn .off ≠ zoneIn .lost
    ∧ running.track.records[(0 : Fin 64)].offBand + (1000 + running.tunnel.residues[(0 : Fin 64)]) / 1000 ≤ 65535
    ∧ (9000 ≤ roll.core ∧ roll.core < 9001)
    ∧ (splicing .paste 10 0 0).roll.spindleA.state = .active ∧ (splicing .paste 10 0 0).roll.spindleB.state = .loaded
    ∧ (splicing .paste 10 0 0).roll.spindleB.remaining = some 3000000
    ∧ (confirmPaste (splicing .paste 10 0 0)).roll.budget = 2500000 := by decide +kernel

theorem witness_ZonesAndRollsFollowTheirRules_settling_stamps_and_mirror :
    (zoneUpdate (zoneIn .lost) (valid 1779)).1.state = .warming
    ∧ zoneUpdate { zoneIn .warming with progress := 1 } (valid 1780) = ({ zoneIn .warming with progress := 2 }, [])
    ∧ (zoneUpdate { zoneIn .low with progress := 2 } (valid 1820)).1 = zoneIn .inBand
    ∧ zoneUpdate { zoneIn .high with progress := 2 } (valid 1821) = (zoneIn .high, [])
    ∧ beltLost (cutting 3150000) = false ∧ setSection (withSetSection (cutting 3150000)).tunnel = some (150000, 650000)
    ∧ (transitWork 5000 (withSetSection (cutting 3150000))).track.records[(0 : Fin 64)].transits =
        { Transits.none with leadEntry := some 5000 }
    ∧ (transitWork 5000 (withSetSection (cutting 3149999))).track.records[(0 : Fin 64)].transits = Transits.none
    ∧ (let s := withRolls .loaded .active .paste running
       (spindle s.roll .b).state = .active ∧ (spindle s.roll .a).state = .loaded
         ∧ (spindle s.roll .a).remaining = some 3000000 ∧ (spindle (confirmPaste s).roll .b).state = .expired
         ∧ (spindle (confirmPaste s).roll .a).refPosition = some 1000500) := by decide +kernel

/-- A running line with pattern 7 in the store and an ACTIVE arrival waiting. -/
def busy : State := (with7 running).withPending [.cycleFrame goodRx]

theorem busy_steps : ∃ t, step busy = .next t := ⟨_, rfl⟩

theorem witness_EveryStepKeepsRecordsInOneList : ListsHoldEveryRecordOnce busy ∧ ∃ t, step busy = .next t :=
  ⟨by unfold ListsHoldEveryRecordOnce; decide +kernel, busy_steps⟩

theorem witness_EveryStepKeepsSpeedsWithinMaximum : SpeedsWithinMaximum busy ∧ ∃ t, step busy = .next t :=
  ⟨by unfold SpeedsWithinMaximum; decide +kernel, busy_steps⟩

theorem witness_EveryStepKeepsFoldWorkWithinLimits : FoldWorkWithinLimits folding ∧ FoldWorkWithinLimits busy
    ∧ ∃ t, step busy = .next t :=
  ⟨by unfold FoldWorkWithinLimits; decide +kernel, by unfold FoldWorkWithinLimits; decide +kernel, busy_steps⟩

theorem witness_EveryStepKeepsTotalsTrue : TotalsFollowFoldKinds busy ∧ ∃ t, step busy = .next t := by
  refine ⟨fun p x h => ?_, busy_steps⟩
  show x.totals = computeTotals FoldKind.table x.leadIn x.leadOut x.groups ∧ x.clamped = isClamped FoldKind.table x.groups
  have := of_all_places (P := fun x => decide (x.totals = computeTotals FoldKind.table x.leadIn x.leadOut x.groups
    ∧ x.clamped = isClamped FoldKind.table x.groups)) (by decide +kernel) p x h
  simpa using this

theorem witness_EveryStepLeavesNothingOpenAtRest : NothingOpenAtRest busy ∧ NothingOpenAtRest halted
    ∧ ∃ t, step busy = .next t :=
  ⟨⟨by decide +kernel, fun h => by simp [LineStands, busy, with7, running, withRolls, withOpen, at', withValue, part, State.withPending,
      State.withStore, State.withRoll, State.withSeq, State.withTrack, State.withConverter, State.withGov, State.withPort] at h⟩,
   ⟨by decide +kernel, fun _ => rfl⟩, busy_steps⟩

theorem witness_EveryStepKeepsOneSpindleFeeding : OneSpindleFeeds busy ∧ OneSpindleFeeds (splicing .matching 0 0 0)
    ∧ ∃ t, step busy = .next t :=
  ⟨by unfold OneSpindleFeeds RollsPaired; decide +kernel, by unfold OneSpindleFeeds RollsPaired; decide +kernel, busy_steps⟩

theorem witness_EveryStepKeepsRoutesDeadlineAndValves : FixedNoticesHalt busy ∧ DeadlineRunsWhileServing busy
    ∧ ValvesWithinRange busy ∧ ∃ t, step busy = .next t :=
  ⟨fixed_running, by unfold DeadlineRunsWhileServing; decide +kernel, by unfold ValvesWithinRange; decide +kernel, busy_steps⟩


/-- R74: a fold of an acting kind with multiplier 0 and limit 5000 reaches the knife with depth 0, its length the pitch. -/
theorem test_stroke_of_multiplier_zero :
    (let kind : FoldKind := { multiplier := 0, limit := 5000, actions := { ActionSet.empty with knife := true } }
     let g : FoldGroup := { flatLead := 0, kind := 0, count := 1, pitch := 2000, startDepth := 1000, endDepth := 1000 }
     let e := completedEntry { serial := 41, record := 0, pattern := 6, start := 0, offset := 0 } kind (.fold g 0 0)
     (strokeOf e).map Stroke.depth = [0] ∧ e.length = 2000 ∧ e.ratio = 4096 ∧ isActing e = true) := by decide +kernel

/-- R159: the first ACTIVE arrival after RESET RUN opens by bias and proportional term alone, and the next one takes the
integral term that both errors have built up: 200 + 1280 / 16, then with 40 times 320 in the integrator. -/
theorem test_valve_after_reset_run :
    (let z : Zone := { Zone.reset with state := .inBand, settings := { zoneSettingsOf zoneArgs with ki := 320 } }
     let s := heating .inBand 0 1780
     let t := s.withTunnel { s.tunnel with restarted := true, zones := s.tunnel.zones.set 0 z }
     let first := regulateValves t
     let next := regulateValves first
     (Tunnel.afterRun s.tunnel).restarted = true ∧ first.tunnel.restarted = false
       ∧ (first.tunnel.zones[(0 : Fin 6)].opening, first.tunnel.zones[(0 : Fin 6)].integrator) = (280, 6400)
       ∧ (next.tunnel.zones[(0 : Fin 6)].opening, next.tunnel.zones[(0 : Fin 6)].integrator) = (330, 12800)) := by
  decide +kernel

/-- DANCER_LIMIT, routed to HALT, takes MATCHING to ARMED after the decision; both spindles still get V_in (R137, R166). -/
theorem witness_SpeedsFollowTheLimits_decided_state :
    ActiveArrival goodRx (halting .dancerLimit ((heating .warming 2 1780).withRoll (splicing .matching 0 0 1000).roll))
    ∧ (let s := halting .dancerLimit ((heating .warming 2 1780).withRoll (splicing .matching 0 0 1000).roll)
     let w := webWork goodRx.frame.timestamp (sampled goodRx s)
     let t := after (exec (.cycleFrame goodRx) s)
     (w.roll.splice, w.roll.spindleA.state, w.roll.spindleB.state) = (.matching, .active, .loaded)
       ∧ t.gov.line = .halted ∧ t.roll.splice = .armed ∧ 0 < t.gov.vIn
       ∧ t.gov.spindleA = t.gov.vIn ∧ t.gov.spindleB = t.gov.vIn) :=
  ⟨⟨in_time 4000 rfl (by decide), rfl, by decide +kernel, .inr rfl⟩, by decide +kernel⟩

/-- A closing PANEL whose decision begins a splice, with ORDER_LOW of that decision routed to HALT. -/
def deferring : State :=
  let s := halting .orderLow (with7 (withRolls .active .loaded .armed emptying))
  (s.withSeq { s.seq with queue := [run7, run7, run7] }).withGov { s.gov with command := 3000 }

/-- The halt comes once the decision has entered MATCHING: the LOADED spindle still gets V_in (R126, R137, R166). -/
theorem witness_SpeedsFollowTheLimits_deferred_halt :
    ActiveArrival goodRx deferring
    ∧ (let o := (sequencerOutcome 5000 (beforeDecision goodRx.frame.timestamp (sampled goodRx deferring))).1
       let t := after (exec (.cycleFrame goodRx) deferring)
       (o.roll.splice, o.roll.spindleA.state, o.roll.spindleB.state) = (.matching, .active, .loaded)
       ∧ openKind t = some .splice ∧ t.gov.line = .halted ∧ t.roll.splice = .armed ∧ 0 < t.gov.vIn
       ∧ t.gov.spindleA = t.gov.vIn ∧ t.gov.spindleB = t.gov.vIn) :=
  ⟨⟨in_time 4000 rfl (by decide), rfl, by decide +kernel, .inr rfl⟩, by decide +kernel⟩

/-- A re-base leaves record 0 behind the knife: it stays in TUNNEL, although the test of R108 alone would let it leave, until
the belt has reached its out_start (R111). -/
theorem witness_ExitMovesAndCuts_behind :
    (let s := cutting (3000000 + 2 ^ 31 + 10)
     beltLost s = false ∧ mayLeave s 0 = true
       ∧ (noteBehind true s).track.behind = [0] ∧ (noteBehind false (noteBehind true s)).track.behind = [0]
       ∧ (noteBehind false s).track.behind = []
       ∧ (exitWork 5000 (noteBehind true s)).track.tunnel = [0])
    ∧ (let s := noteBehind true (cutting (3000000 + 2 ^ 31 + 10))
       let at0 := s.withConverter (cutting 3000000).converter
       (noteBehind false at0).track.behind = [])
    ∧ (let s := following (3000500 - 149000 - 2 ^ 31) running
       (entryWork s).track.runout = [] ∧ (entryWork (noteBehind true s)).track.runout = [0]) := by
  decide +kernel
end Sys2Proof.Tests
end

/-! Proofs of the pattern store (03_patterns_and_fold_kinds.md): how a request that the port serves is answered, one
equation per branch of DELETE_PATTERN, and what an absent place leaves of READ_RECORD and APPEND_RUN (R52). -/

namespace Sys2Proof.Proofs

open Machine Statements

/-! ### A request in LISTEN or ACTIVE -/

/-- A served request answers OK when the service handler does. -/
theorem exec_eq_ok {i : Instr} {s t : State} {payload : List Byte} (hi : (Decode.requestBytes i).isSome = true)
    (hs : Served s) (h : serve i s = (t, okay payload)) : exec i s = ok t payload := by
  rw [exec_request i hi, take_served ((portServes_iff _).mpr hs), h]
  rfl

/-- A served request is refused, with nothing changed, when the service handler refuses it. -/
theorem exec_eq_refused {i : Instr} {s : State} {st : Status} {v a b : Nat}
    (hi : (Decode.requestBytes i).isSome = true) (hs : Served s) (h : serve i s = refuse s st v a b) :
    exec i s = refused s st v a b := by
  rw [exec_request i hi, take_served ((portServes_iff _).mpr hs), h]
  rfl

/-- Writing the pattern store does not change whether the port serves. -/
theorem served_withStore {s : State} (x : PatternStore) : Served (s.withStore x) ↔ Served s := Iff.rfl

/-! ### Patterns in use -/

theorem patternInUse_iff_inUse (s : State) (p : Fin 48) : patternInUse s p = true ↔ InUse s p := patternInUse_iff s p

/-! ### DELETE_PATTERN, branch by branch -/

theorem deletePattern_out_of_range {n : Nat} (s : State) (h : n = 0 ∨ 48 < n) :
    deletePattern n s = refuse s .range := by
  rw [deletePattern, ordinal?_none h]

theorem deletePattern_absent {s : State} {p : Fin 48} (h : s.store.places[p] = none) :
    deletePattern (p.val + 1) s = refuse s .absent := by
  have hp : patternAt s p = none := h
  simp [deletePattern, ordinal?_succ, hp]

theorem deletePattern_inUse {s : State} {p : Fin 48} (h : s.store.places[p] ≠ none) (hu : InUse s p) :
    deletePattern (p.val + 1) s = refuse s .inUse := by
  have hp : patternAt s p ≠ none := h
  simp [deletePattern, ordinal?_succ, hp, (patternInUse_iff_inUse s p).mpr hu]

theorem deletePattern_frees {s : State} {p : Fin 48} (h : s.store.places[p] ≠ none) (hu : ¬InUse s p) :
    deletePattern (p.val + 1) s =
      (s.withStore { s.store with places := s.store.places.set p none }, okay []) := by
  have hp : patternAt s p ≠ none := h
  simp [deletePattern, ordinal?_succ, hp, mt (patternInUse_iff_inUse s p).mp hu]

/-! ### Requests that meet an absent place -/

/-- READ_RECORD reads nothing of the pattern store. -/
theorem readRecord_withStore (i : Fin 64) (s : State) (x : PatternStore) :
    readRecord i.val (s.withStore x) = (s.withStore x, (readRecord i.val s).2) := by
  simp only [readRecord, index?_val]
  rfl

/-- READ_RECORD of one of the 64 records answers OK and changes nothing (R116). -/
theorem readRecord_okay (i : Fin 64) (s : State) : ∃ b, readRecord i.val s = (s, okay b) := by
  simp [readRecord, index?_val]

theorem appendRun_absent {s : State} {p : Fin 48} {count tag : Nat} (h : s.store.places[p] = none)
    (hc : 1 ≤ count ∧ count ≤ 65535) (ht : tag ≤ 65535) : appendRun (p.val + 1) count tag s = refuse s .absent := by
  have hp : patternAt s p = none := h
  have hcount : within 1 65535 count = true := (within_iff ..).mpr hc
  have htag : within 0 65535 tag = true := (within_iff ..).mpr ⟨Nat.zero_le _, ht⟩
  simp [appendRun, ordinal?_succ, hcount, htag, hp]

/-- READ_RECORD of a served record replies the same under every pattern store. -/
theorem exec_readRecord_same_reply {s : State} (hs : Served s) (x : PatternStore) {k : Nat} (hk : k < 64) :
    ∃ b, exec (.readRecord k) s = ok s b ∧ exec (.readRecord k) (s.withStore x) = ok (s.withStore x) b := by
  obtain ⟨b, hb⟩ := readRecord_okay ⟨k, hk⟩ s
  have hx : readRecord k (s.withStore x) = (s.withStore x, okay b) := by
    rw [readRecord_withStore ⟨k, hk⟩ s x, hb]
  exact ⟨b, exec_eq_ok rfl hs hb, exec_eq_ok rfl ((served_withStore x).mpr hs) hx⟩

/-! ### R52 -/

/-- Settles O9: the cases of the place (outside 1 to 48, absent, in use, free to go) are the branches of
DELETE_PATTERN; what stands afterwards follows because the request writes that one place alone. -/
theorem deletePatternFreesThePlace : Obligations.DeletePatternFreesThePlace := by
  intro n s hs
  refine ⟨fun h => exec_eq_refused rfl hs (deletePattern_out_of_range s h), ?_⟩
  rintro p rfl
  refine ⟨fun h => exec_eq_refused rfl hs (deletePattern_absent h),
    fun h hu => exec_eq_refused rfl hs (deletePattern_inUse h hu), ?_⟩
  rintro h hu t rfl
  have hgone : (s.store.places.set p none)[p] = none := Vector.getElem_set_self _
  have hothers : ∀ q : Fin 48, q ≠ p → (s.store.places.set p none)[q] = s.store.places[q] :=
    fun q hq => Vector.getElem_set_ne _ _ fun e => hq (Fin.ext e.symm)
  exact ⟨exec_eq_ok rfl hs (deletePattern_frees h hu), hgone, rfl, hothers,
    fun k hk => exec_readRecord_same_reply hs _ hk,
    fun _ _ hlo hhi ht =>
      exec_eq_refused rfl ((served_withStore _).mpr hs) (appendRun_absent hgone ⟨hlo, hhi⟩ ht)⟩

end Sys2Proof.Proofs

/-! Proof of CANCEL_RUNS (05_order_runs_and_the_panel_sequencer.md): its one branch, and which patterns stay in use
once the order queue is empty (R80). -/

namespace Sys2Proof.Proofs

open Machine Statements

/-! ### The order queue -/

/-- CANCEL_RUNS has no refusal of its own: a served one always answers the number of runs it removed. -/
theorem exec_cancelRuns {s : State} (hs : Served s) :
    exec .cancelRuns s = ok (s.withSeq { s.seq with queue := [] }) [byte s.seq.queue.length] :=
  exec_eq_ok rfl hs (congrArg (fun payload => (_, okay payload)) (leBytes_one _))

/-- With an empty order queue, a pattern is in use only through the current run and the PANEL records on the belt. -/
theorem inUse_of_queue_empty_iff {s : State} (hq : s.seq.queue = []) (p : Fin 48) : InUse s p ↔
    (∃ c, s.seq.current = some c ∧ 0 < c.remaining ∧ c.run.pattern = p)
      ∨ ∃ i ∈ s.track.runout ++ s.track.tunnel ++ s.track.exit,
          s.track.records[i].kind = some .panel ∧ s.track.records[i].pattern = some p := by
  have hnone : ¬∃ r ∈ s.seq.queue, r.pattern = p := by simp [hq]
  rw [InUse, or_iff_right hnone]

/-! ### R80 -/

/-- Settles O11: the reply and the next state are those of the one branch of CANCEL_RUNS; the next state keeps the
current run and the track, so the in-use test of R50 loses only its clause about the queue. -/
theorem cancelRunsEmptiesTheQueue : Obligations.CancelRunsEmptiesTheQueue := fun s hs =>
  ⟨s.withSeq { s.seq with queue := [] }, rfl, exec_cancelRuns hs,
    fun p => ⟨patternInUse_iff_inUse _ p, inUse_of_queue_empty_iff rfl p⟩⟩

end Sys2Proof.Proofs

/-! The laws of Safety.lean read only a few items of a state. `View` holds those items, and `Move` lists, once, every
way in which a command can change them. Each command then is a chain of moves (next part), and each law is one case
analysis over the moves. -/

namespace Sys2Proof.Proofs

open Machine Statements Safety

/-! ### What the laws read -/

/-- The items of a state that the laws of Safety.lean read. -/
structure View where
  free : List (Fin 64)
  runout : List (Fin 64)
  tunnel : List (Fin 64)
  exit : List (Fin 64)
  done : List (Fin 64)
  store : PatternStore
  inFlight : Nat
  queued : Nat
  openRecord : Option (Fin 64)
  line : LineState
  command : Nat
  vSet : Nat
  vMax : Nat
  spindleA : SpindleState
  spindleB : SpindleState
  splice : SpliceState

/-- The items that the laws read, as they stand in a state. -/
def view (s : State) : View :=
  { free := s.track.free, runout := s.track.runout, tunnel := s.track.tunnel, exit := s.track.exit,
    done := s.track.done, store := s.store, inFlight := inFlight s.folds, queued := s.folds.queue.length,
    openRecord := s.seq.openRecord, line := s.gov.line, command := s.gov.command, vSet := s.gov.vSet,
    vMax := s.gov.settings.vMax, spindleA := s.roll.spindleA.state, spindleB := s.roll.spindleB.state,
    splice := s.roll.splice }

/-- The line stands (section 12.2). -/
def View.stands (v : View) : Prop := v.line = .configure ∨ v.line = .stopped ∨ (v.line = .halted ∧ v.command = 0)

/-- One spindle is ACTIVE and the other LOADED (R166). -/
def View.paired (v : View) : Prop :=
  (v.spindleA = .active ∧ v.spindleB = .loaded) ∨ (v.spindleA = .loaded ∧ v.spindleB = .active)

/-- The controller at its resting state (R166). -/
def View.rested (v : View) : View :=
  { v with splice := if (v.spindleA = .active ∧ v.spindleB = .loaded) ∨ (v.spindleB = .active ∧ v.spindleA = .loaded)
                     then .ready else .standby }

/-- The line's entry into HALTED (R126, R67, R174, R98). -/
def View.halted (v : View) : View :=
  { v with line := .halted, inFlight := 0, queued := 0, openRecord := if v.command = 0 then none else v.openRecord,
           splice := if v.splice = .matching then .armed else v.splice }

/-- The state of one spindle. -/
def View.spindle (v : View) : SpindleName → SpindleState
  | .a => v.spindleA
  | .b => v.spindleB

/-- One spindle in another state. -/
def View.setSpindle (v : View) (n : SpindleName) (x : SpindleState) : View :=
  match n with
  | .a => { v with spindleA := x }
  | .b => { v with spindleB := x }

/-- The speed command at another value; in HALTED at 0 no record stays open (R98, R127, R135). -/
def View.atCommand (v : View) (c : Nat) : View :=
  { v with command := c, openRecord := if v.line = .halted ∧ c = 0 then none else v.openRecord }

/-- The swap of a confirmed paste (R170). -/
def swappedState : SpindleState → SpindleState
  | .active => .expired
  | .loaded => .active
  | x => x

/-- A pattern with the totals and the CLAMPED flag of its record (R46, R47). -/
def TotalsHold (kinds : Vector FoldKind 16) (x : Pattern) : Prop :=
  x.totals = computeTotals kinds x.leadIn x.leadOut x.groups ∧ x.clamped = isClamped kinds x.groups

/-! ### The moves -/

/-- Every way in which a command changes what the laws read, with what holds where it does. -/
inductive Move : View → View → Prop
  /-- R104: the head of FREE opens in a running line. -/
  | openHead (v : View) (i : Fin 64) (rest : List (Fin 64)) (hrun : lineRunning v.line = true)
      (hfree : v.free = i :: rest) :
      Move v { v with free := rest, runout := v.runout ++ [i], openRecord := some i }
  /-- R92, R93, R98: no record stays open. -/
  | close (v : View) : Move v { v with openRecord := none }
  /-- R112. -/
  | enterTunnel (v : View) (i : Fin 64) (rest : List (Fin 64)) (h : v.runout = i :: rest) :
      Move v { v with runout := rest, tunnel := v.tunnel ++ [i] }
  /-- R113. -/
  | leaveTunnel (v : View) (i : Fin 64) (rest : List (Fin 64)) (h : v.tunnel = i :: rest) :
      Move v { v with tunnel := rest, exit := v.exit ++ [i] }
  /-- R180. -/
  | cut (v : View) (i : Fin 64) (rest : List (Fin 64)) (h : v.exit = i :: rest) :
      Move v { v with exit := rest, done := v.done ++ [i] }
  /-- R117. -/
  | collect (v : View) (i : Fin 64) (rest : List (Fin 64)) (h : v.done = i :: rest) :
      Move v { v with done := rest, free := v.free ++ [i] }
  /-- R65, R66, R70: requests leave, and no more entries come than requests went. -/
  | lessWork (v : View) (f q : Nat) (hf : f ≤ v.inFlight) (hq : f + q ≤ v.inFlight + v.queued) :
      Move v { v with inFlight := f, queued := q }
  /-- R64: a request is issued within both limits. -/
  | issue (v : View) (hf : v.inFlight < 8) (hq : v.inFlight + v.queued < 32) :
      Move v { v with inFlight := v.inFlight + 1 }
  /-- R50: a pattern is stored with its totals. -/
  | storePattern (v : View) (p : Fin 48) (x : Pattern) (h : TotalsHold v.store.kinds x) :
      Move v { v with store := { v.store with places := v.store.places.set p (some x) } }
  /-- R52. -/
  | deletePattern (v : View) (p : Fin 48) :
      Move v { v with store := { v.store with places := v.store.places.set p none } }
  /-- R44: a fold kind is replaced and its patterns are computed anew. -/
  | foldKind (v : View) (k : Fin 16) (x : FoldKind) :
      Move v { v with store := { kinds := v.store.kinds.set k x
                                 places := Vector.ofFn fun p =>
                                   recomputed k (v.store.kinds.set k x) v.store.places[p] } }
  /-- R129. -/
  | setSpeed (v : View) (x : Nat) (h : x ≤ v.vMax) : Move v { v with vSet := x }
  /-- R130: the limits are written and both speeds clamped to the new maximum. -/
  | limits (v : View) (m : Nat) (h : 0 < m) :
      Move v { v with vMax := m, vSet := min v.vSet m, command := min v.command m }
  /-- R135, R127. -/
  | ramp (v : View) (c : Nat) (h : c ≤ max v.command v.vMax) : Move v (v.atCommand c)
  /-- R126. -/
  | halt (v : View) (h : lineRunning v.line = true) : Move v v.halted
  /-- R120, R121, R128: a standing line goes to CONFIGURE or STOPPED. -/
  | rest (v : View) (l : LineState) (h : v.stands) (hl : l = .configure ∨ l = .stopped) : Move v { v with line := l }
  /-- R122. -/
  | start (v : View) (h : v.spindleA = .active ∨ v.spindleB = .active) : Move v { v with line := .run }
  /-- R123, R124. -/
  | stopping (v : View) (h : v.line = .run) : Move v { v with line := .stopping }
  /-- R125. -/
  | stopped (v : View) (h : v.openRecord = none) : Move v { v with line := .stopped }
  /-- R166, R173, R174: the controller enters its resting state. -/
  | spliceRests (v : View) : Move v v.rested
  /-- R167 to R169: the controller arms, matches or pastes. -/
  | spliceGoesOn (v : View) (x : SpliceState)
      (h : v.splice = .ready ∨ v.splice = .armed ∨ v.splice = .matching) : Move v { v with splice := x }
  /-- R169, R170. -/
  | spliceFails (v : View) : Move v { v with splice := .failed }
  /-- R170. -/
  | confirm (v : View) (h : v.splice = .paste) :
      Move v { v with spindleA := swappedState v.spindleA, spindleB := swappedState v.spindleB, splice := .clear }
  /-- R162: an EXPIRED spindle becomes EMPTY. -/
  | freed (v : View) (n : SpindleName) (h : v.spindle n = .expired) : Move v (v.setSpindle n .empty)
  /-- R162: a roll is taken off in a splice state that lets it go; an ACTIVE one of a line that stands. -/
  | unload (v : View) (n : SpindleName)
      (hs : v.splice ≠ .matching ∧ v.splice ≠ .paste) (ha : v.spindle n = .active → v.stands) :
      Move v (if v.splice = .standby ∨ v.splice = .ready ∨ v.splice = .armed then (v.setSpindle n .empty).rested
        else v.setSpindle n .empty)
  /-- R161: a roll is put on an EMPTY spindle. -/
  | load (v : View) (n : SpindleName) (x : SpindleState) (he : v.spindle n = .empty)
      (hx : x = .loaded ∨ (x = .active ∧ v.spindleA ≠ .active ∧ v.spindleB ≠ .active)) : Move v (v.setSpindle n x)
  /-- R199. -/
  | resetRun (v : View) (h : v.stands) :
      Move v { v with free := List.finRange 64, runout := [], tunnel := [], exit := [], done := [], inFlight := 0,
                      queued := 0, openRecord := none, command := 0 }
  /-- R18, R200. -/
  | powerOn (v : View) : Move v (view State.reset)

/-- What the laws read of `t` comes of what they read of `s` by moves. -/
def Reaches (s t : State) : Prop := Relation.ReflTransGen Move (view s) (view t)

theorem Reaches.refl (s : State) : Reaches s s := Relation.ReflTransGen.refl

theorem Reaches.trans {s t u : State} (h : Reaches s t) (h' : Reaches t u) : Reaches s u :=
  Relation.ReflTransGen.trans h h'

theorem Reaches.of_view_eq {s t : State} (h : view t = view s) : Reaches s t := by
  rw [Reaches, h]

theorem Reaches.of_move {s t : State} (h : Move (view s) (view t)) : Reaches s t := .single h

theorem Reaches.of_eq_move {s t : State} {v : View} (h : Move (view s) v) (hv : view t = v) : Reaches s t :=
  .of_move (hv ▸ h)

theorem Reaches.view_left {s s' t : State} (h : Reaches s' t) (hv : view s' = view s) : Reaches s t := by
  rwa [Reaches, ← hv]

theorem Reaches.view_right {s t t' : State} (h : Reaches s t) (hv : view t' = view t) : Reaches s t' :=
  h.trans (.of_view_eq hv)

/-- A property of what the laws read, kept by every move, is kept wherever moves lead. -/
theorem Reaches.keeps {P : View → Prop} (hmove : ∀ v w, Move v w → P v → P w) {s t : State} (h : Reaches s t)
    (hs : P (view s)) : P (view t) := by
  unfold Reaches at h
  generalize view t = w at h
  induction h with
  | refl => exact hs
  | tail _ hm ih => exact hmove _ _ hm ih

/-! ### What each block update leaves of the view -/

section
variable (s : State)

@[simp] theorem view_withPort (x : RingPort) : view (s.withPort x) = view s := rfl
@[simp] theorem view_withConverter (x : Converter) : view (s.withConverter x) = view s := rfl
@[simp] theorem view_withLines (x : FieldLines) : view (s.withLines x) = view s := rfl
@[simp] theorem view_withTunnel (x : Tunnel) : view (s.withTunnel x) = view s := rfl
@[simp] theorem view_withTakeOff (x : TakeOff) : view (s.withTakeOff x) = view s := rfl
@[simp] theorem view_withNotices (x : Notices) : view (s.withNotices x) = view s := rfl
@[simp] theorem view_withTimer (x : Nat) : view (s.withTimer x) = view s := rfl
@[simp] theorem view_withReply (x : Option Reply) : view (s.withReply x) = view s := rfl
@[simp] theorem view_withDownstream (x : Option Frame) : view (s.withDownstream x) = view s := rfl
@[simp] theorem view_withFreeIndex (x : Nat) : view (s.withFreeIndex x) = view s := rfl
@[simp] theorem view_withPending (x : List Instr) : view (s.withPending x) = view s := rfl
@[simp] theorem view_withStore (x : PatternStore) : view (s.withStore x) = { view s with store := x } := rfl
@[simp] theorem view_withSeq (x : Sequencer) : view (s.withSeq x) = { view s with openRecord := x.openRecord } := rfl
@[simp] theorem view_withFolds (x : Calculator) :
    view (s.withFolds x) = { view s with inFlight := inFlight x, queued := x.queue.length } := rfl
@[simp] theorem view_withTrack (x : Track) : view (s.withTrack x) =
    { view s with free := x.free, runout := x.runout, tunnel := x.tunnel, exit := x.exit, done := x.done } := rfl
@[simp] theorem view_withGov (x : Governor) : view (s.withGov x) =
    { view s with line := x.line, command := x.command, vSet := x.vSet, vMax := x.settings.vMax } := rfl
@[simp] theorem view_withRoll (x : RollChange) : view (s.withRoll x) =
    { view s with spindleA := x.spindleA.state, spindleB := x.spindleB.state, splice := x.splice } := rfl

end

/-- Two states with the same blocks that the laws read have the same view. -/
theorem view_congr {s t : State} (hstore : t.store = s.store) (hfolds : t.folds = s.folds) (hseq : t.seq = s.seq)
    (htrack : t.track = s.track) (hgov : t.gov = s.gov) (hroll : t.roll = s.roll) : view t = view s := by
  simp only [view, hstore, hfolds, hseq, htrack, hgov, hroll]

/-- The model's resting state is that of the view. -/
theorem view_rested (s : State) : (view s).rested = { view s with splice := restingState s.roll } := rfl

end Sys2Proof.Proofs

/-! Each operation of an arrival as a chain of moves: first those that change nothing the laws read, then halting and
raising, then the blocks in the order in which an arrival runs them. -/

namespace Sys2Proof.Proofs

open Machine Statements Safety

/-! ### Operations that change nothing the laws read -/

@[simp] theorem view_setRecord (s : State) (i : Fin 64) (r : TrackRecord) : view (setRecord s i r) = view s := rfl

@[simp] theorem view_updateRecord (s : State) (i : Fin 64) (f : TrackRecord → TrackRecord) :
    view (updateRecord s i f) = view s := rfl

@[simp] theorem view_resetRatio (s : State) : view (resetRatio s) = view s := rfl

@[simp] theorem view_noOpenRecord (s : State) : view (noOpenRecord s) = { view s with openRecord := none } := rfl

@[simp] theorem view_setZone (s : State) (z : Fin 6) (x : Zone) : view (setZone s z x) = view s := rfl

@[simp] theorem view_latchLines (s : State) : view (latchLines s) = view s := rfl

@[simp] theorem view_regulateValves (s : State) : view (regulateValves s) = view s := rfl

@[simp] theorem view_pasteField (s : State) : view (pasteField s) = view s := rfl

@[simp] theorem view_takeIn (rx : Reception) (s : State) : view (takeIn rx s) = view s := rfl

@[simp] theorem view_countArrival (s : State) : view (countArrival s) = view s := rfl

@[simp] theorem view_enterListen (s : State) : view (enterListen s) = view s := rfl

@[simp] theorem view_enterSyncing (s : State) : view (enterSyncing s) = view s := rfl

@[simp] theorem view_spindleStep (x : SpliceState) (s : State) : view (spindleStep x s) = view s := rfl

@[simp] theorem view_markSpliced (s : State) (i : Fin 64) : view (markSpliced s i) = view s := by
  unfold markSpliced
  split
  · dsimp only
    split <;> simp
  · rfl

@[simp] theorem view_closeAgainstJoint (s : State) (i : Fin 64) : view (closeAgainstJoint s i) = view s := by
  rw [closeAgainstJoint]
  split
  · simp
  · rw [← view_markSpliced s i]
    rfl

@[simp] theorem view_replaceSpan (s : State) : view (replaceSpan s) = view s := by
  have h : ∀ t : State, view (t.withRoll { t.roll with span := none }) = view t := fun _ => rfl
  unfold replaceSpan
  rw [h]
  split
  · split <;> simp
  · rfl

@[simp] theorem view_noteBehind (was : Bool) (s : State) : view (noteBehind was s) = view s := by
  unfold noteBehind
  split <;> rfl

@[simp] theorem view_countGood (g : Option Nat) (s : State) : view (countGood g s) = view s :=
  view_congr (by simp) (by simp) (by simp) (by simp) (by simp) (by simp)

@[simp] theorem view_setGapReason (g : GapReason) (s : State) : view (setGapReason g s) = view s := by
  unfold setGapReason
  split
  · split <;> simp
  · rfl

@[simp] theorem view_stampRecord (ts : Timestamp) (i : Fin 64) (s : State) : view (stampRecord ts i s) = view s := by
  unfold stampRecord
  split <;> simp

@[simp] theorem view_stampAll (ts : Timestamp) (l : List (Fin 64)) (s : State) : view (stampAll ts l s) = view s := by
  induction l generalizing s with
  | nil => rfl
  | cons i rest ih => rw [stampAll, ih, view_stampRecord]

@[simp] theorem view_transitWork (ts : Timestamp) (s : State) : view (transitWork ts s) = view s := by
  unfold transitWork
  split <;> simp

@[simp] theorem view_takeRun (s : State) : view (takeRun s).1 = view s := by
  unfold takeRun
  split <;> rfl

@[simp] theorem view_panelDecision (s : State) : view (panelDecision s).1 = view s := by
  unfold panelDecision
  split
  · rfl
  · dsimp only
    split <;> simp

@[simp] theorem measuredSpindle_state (p : Position) (q : Quantity) (x : Spindle) :
    (measuredSpindle p q x).state = x.state := by
  unfold measuredSpindle
  dsimp only
  split
  · split
    · rfl
    · split
      · split <;> rfl
      · rfl
  · rfl

@[simp] theorem view_measureRolls (s : State) : view (measureRolls s) = view s := by
  simp only [measureRolls, view_withRoll, measuredSpindle_state]
  rfl

@[simp] theorem view_formCutEntry (s : State) : view (formCutEntry s) = view s := by
  unfold formCutEntry
  split <;> rfl

/-- The selection marks entries of the queue and moves none. -/
theorem selectStrokes_length (p : Position) (w n : Nat) (q : List StrokeEntry) :
    (selectStrokes p w n q).2.length = q.length := by
  fun_induction selectStrokes p w n q <;> simp_all +zetaDelta

@[simp] theorem view_emission (s : State) : view (emission s) = view s := by
  simp only [emission, view_withFolds, selectStrokes_length]
  rfl

/-! ### Halting and raising -/

@[simp] theorem view_closeFlat (s : State) : view (closeFlat s) = { view s with openRecord := none } := by
  unfold closeFlat
  cases h : s.seq.openRecord with
  | none => simp [view, h]
  | some i => simp

@[simp] theorem view_closeHalted (s : State) : view (closeHalted s) = { view s with openRecord := none } := by
  unfold closeHalted
  cases h : s.seq.openRecord with
  | none => simp [view, h]
  | some i =>
    dsimp only
    split <;> simp

theorem view_settleHalted (s : State) : view (settleHalted s) = (view s).atCommand s.gov.command := by
  unfold settleHalted View.atCommand
  split
  · rename_i h
    have h' : (view s).line = .halted ∧ s.gov.command = 0 := h
    simp only [view_closeHalted, if_pos h']
    rfl
  · rename_i h
    have h' : ¬((view s).line = .halted ∧ s.gov.command = 0) := h
    simp only [if_neg h']
    rfl

/-- A halt or a RESET leaves no request in flight and nothing queued (R67, R77). -/
@[simp] theorem view_haltFolds (s : State) : view (haltFolds s) = { view s with inFlight := 0, queued := 0 } := by
  simp [haltFolds, dropContext, inFlight]
  rfl

theorem view_enterHalted (s : State) : view (enterHalted s) = (view s).halted := by
  have hroll : ∀ t : State, view (if t.roll.splice = .matching then
      t.withRoll { t.roll with splice := .armed, matchCount := 0 } else t) =
        { view t with splice := if t.roll.splice = .matching then .armed else t.roll.splice } := by
    intro t
    split <;> simp_all [view]
  have hgov : ∀ t : State, (if t.roll.splice = .matching then
      t.withRoll { t.roll with splice := .armed, matchCount := 0 } else t).gov = t.gov := by
    intro t
    split <;> rfl
  rw [enterHalted]
  dsimp only
  rw [view_settleHalted, hroll, hgov, view_withGov, view_haltFolds]
  simp only [State.withGov_gov, State.withGov_roll, haltFolds_frame, View.atCommand, View.halted, true_and]
  rfl

theorem raiseNotice_reaches (n : Notice) (s : State) : Reaches s (raiseNotice n s) := by
  obtain h | ⟨t, rfl, h | ⟨hrun, h⟩⟩ := raiseNotice_cases n s
  · exact .of_view_eq (by rw [h])
  · exact .of_view_eq (by rw [h, view_withNotices])
  · exact .of_eq_move (.halt _ hrun) (by rw [h, view_enterHalted, view_withNotices])

theorem raiseAll_reaches (ns : List Notice) (s : State) : Reaches s (raiseAll ns s) := by
  induction ns generalizing s with
  | nil => exact .refl s
  | cons n rest ih => exact (raiseNotice_reaches n s).trans (ih _)

theorem raiseWhen_reaches (c : Bool) (n : Notice) (s : State) : Reaches s (raiseWhen c n s) := by
  unfold raiseWhen
  split
  · exact raiseNotice_reaches n s
  · exact .refl s

theorem Reaches.raised {s t : State} {n : Notice} (h : Reaches s t) : Reaches s (raiseNotice n t) :=
  h.trans (raiseNotice_reaches n t)

theorem Reaches.raisedAll {s t : State} {ns : List Notice} (h : Reaches s t) : Reaches s (raiseAll ns t) :=
  h.trans (raiseAll_reaches ns t)

theorem Reaches.raisedWhen {s t : State} {c : Bool} {n : Notice} (h : Reaches s t) : Reaches s (raiseWhen c n t) :=
  h.trans (raiseWhen_reaches c n t)

theorem raiseWhileRunning_reaches (ns : List Notice) (s : State) : Reaches s (raiseWhileRunning ns s) := by
  induction ns generalizing s with
  | nil => exact .refl s
  | cons n rest ih =>
    unfold raiseWhileRunning
    split
    · exact (raiseNotice_reaches n s).trans (ih _)
    · exact .refl s

/-! ### The ring port, the converter and the lines -/

theorem examineGood_reaches (f : Frame) (s : State) : Reaches s (examineGood f s) := by
  unfold examineGood
  dsimp only
  split
  · exact .of_view_eq rfl
  · split
    · exact (raiseNotice_reaches _ _).view_left rfl
    · split
      · exact (raiseNotice_reaches _ _).view_left rfl
      · exact .of_view_eq rfl

theorem enterFault_reaches (s : State) : Reaches s (enterFault s) := (raiseNotice_reaches _ _).view_left rfl

theorem expireSilence_reaches (s : State) : Reaches s (expireSilence s) := (enterFault_reaches _).view_left rfl

theorem countBad_reaches (c : ErrorCode) (s : State) : Reaches s (countBad c s) :=
  (raiseNotice_reaches _ _).view_left rfl

theorem countBadRun_reaches (s : State) : Reaches s (countBadRun s) := by
  unfold countBadRun
  split
  · exact .refl s
  · exact .of_view_eq rfl
  · exact .of_view_eq rfl
  all_goals
    dsimp only
    split
    · exact (enterFault_reaches _).view_left rfl
    · exact .of_view_eq rfl

theorem withQuantities_reaches (f : Fin 16 → Quantity × List Notice) (s : State) : Reaches s (withQuantities f s) :=
  (raiseAll_reaches _ _).view_left rfl

theorem doorTest_reaches (s : State) : Reaches s (doorTest s) := by
  unfold doorTest
  split
  · exact .refl s
  · exact (raiseWhen_reaches _ _ _).view_left rfl

theorem atReception_reaches (rx : Reception) (s : State) : Reaches s (atReception rx s) := by
  unfold atReception
  dsimp only
  split
  · exact (expireSilence_reaches _).view_left rfl
  · exact .of_view_eq rfl

theorem badFrame_reaches (c : ErrorCode) (s : State) : Reaches s (badFrame c s) :=
  ((countBad_reaches c s).trans (withQuantities_reaches _ _)).trans (countBadRun_reaches _)

theorem goodOutside_reaches (f : Frame) (s : State) : Reaches s (goodOutside f s) :=
  ((examineGood_reaches f s).trans (withQuantities_reaches _ _)).view_right (view_countGood _ _)

theorem sampleWork_reaches (f : Frame) (s : State) : Reaches s (sampleWork f s) :=
  (((doorTest_reaches _).view_left (view_latchLines s)).trans (withQuantities_reaches _ _)).view_right
    (view_noteBehind _ _)

/-! ### The fold calculator -/

/-- How many requests of a list are not abandoned. -/
def liveRequests (l : List FoldRequest) : Nat := (l.filter fun r => !r.abandoned).length

theorem inFlight_eq (f : Calculator) : inFlight f = liveRequests f.requests := rfl

theorem liveRequests_cons (r : FoldRequest) (l : List FoldRequest) :
    liveRequests (r :: l) = liveRequests l + if r.abandoned then 0 else 1 := by
  cases h : r.abandoned <;> simp [liveRequests, h]

theorem liveRequests_append (l k : List FoldRequest) : liveRequests (l ++ k) = liveRequests l + liveRequests k := by
  simp [liveRequests]

/-- A calculator with no more in flight, and no more queued or in flight together. -/
theorem Reaches.of_lessWork {s : State} {x : Calculator} (hf : inFlight x ≤ inFlight s.folds)
    (hq : inFlight x + x.queue.length ≤ inFlight s.folds + s.folds.queue.length) : Reaches s (s.withFolds x) :=
  .of_move (.lessWork (view s) _ _ hf hq)

theorem issueOne_reaches (s : State) : Reaches s (issueOne s) := by
  unfold issueOne
  split
  · split
    · split
      · rename_i h
        refine .of_eq_move (.issue (view s) h.2.1 h.2.2) ?_
        simp only [view_withSeq, view_withFolds, inFlight_eq, liveRequests_append]
        rfl
      · exact .refl s
    · exact .refl s
  · exact .refl s

theorem issueRequests_reaches (s : State) : Reaches s (issueRequests s) := by
  have h1 := issueOne_reaches
  exact (h1 _).trans <| (h1 _).trans <| (h1 _).trans <| (h1 _).trans <| (h1 _).trans <| (h1 _).trans <|
    (h1 _).trans (h1 _)

/-- A completion takes one request off, and appends an entry only for one that was in flight (R65). -/
theorem completeRequest_reaches (s : State) : Reaches s (completeRequest s) := by
  unfold completeRequest
  split
  · exact .refl s
  · rename_i r rest hreq
    have hlive : inFlight s.folds = liveRequests rest + if r.abandoned then 0 else 1 := by
      rw [inFlight_eq, hreq, liveRequests_cons]
    have hgone : Reaches s (s.withFolds { s.folds with requests := rest }) := by
      apply Reaches.of_lessWork <;> rw [hlive, inFlight_eq] <;> dsimp only <;> omega
    dsimp only
    split
    · exact hgone
    · split
      · rename_i c _ hbelongs
        have hr : r.abandoned = false := by simp_all [belongsTo]
        rw [hr] at hlive
        split
        · exact hgone
        · rename_i spec _
          have happends : ∀ e : StrokeEntry, ∀ x : Option PanelContext, Reaches s (s.withFolds
              { s.folds with requests := rest, queue := s.folds.queue ++ [e], context := x }) := by
            intro e x
            apply Reaches.of_lessWork <;> rw [hlive, inFlight_eq]
            · simp
            · simp
              omega
          exact (happends _ _).trans (issueRequests_reaches _)
      · exact hgone

theorem passEntry_reaches {e : StrokeEntry} {rest : List StrokeEntry} {s : State} (h : s.folds.queue = e :: rest) :
    Reaches s (passEntry e rest s) := by
  have hgone : Reaches s (s.withFolds { s.folds with queue := rest, ratio := e.ratio }) :=
    .of_lessWork (Nat.le_refl _) (by simp [h, inFlight_eq])
  refine .trans ?_ (issueRequests_reaches _)
  split
  · exact hgone.trans ((raiseNotice_reaches _ _).view_left (view_updateRecord _ _ _))
  · exact hgone

theorem passing_reaches (n : Nat) (s : State) : Reaches s (passing n s) := by
  induction n generalizing s with
  | zero => exact .refl s
  | succ n ih =>
    unfold passing
    split
    · exact .refl s
    · rename_i e rest h
      split
      · exact (passEntry_reaches h).trans (ih _)
      · exact .refl s

theorem foldWork_reaches (s : State) : Reaches s (foldWork s) := by
  unfold foldWork
  split
  · exact .of_view_eq rfl
  · exact (passing_reaches _ s).view_right (view_emission _)

end Sys2Proof.Proofs

/-! The blocks that act after the fold calculator, the frame and the requests, as chains of moves; together, what any
command does to the items that the laws read. -/

namespace Sys2Proof.Proofs

open Machine Statements Safety

/-! ### The track block and the tunnel -/

theorem enterTunnel_reaches {i : Fin 64} {rest : List (Fin 64)} {s : State} (h : s.track.runout = i :: rest) :
    Reaches s (enterTunnel i rest s) :=
  .of_move (.enterTunnel (view s) i rest h)

theorem entryMoves_reaches (n : Nat) (s : State) : Reaches s (entryMoves n s) := by
  induction n generalizing s with
  | zero => exact .refl s
  | succ n ih =>
    unfold entryMoves
    split
    · exact .refl s
    · rename_i i rest h
      split
      · exact (enterTunnel_reaches h).trans (ih _)
      · exact .refl s

theorem entryWork_reaches (s : State) : Reaches s (entryWork s) := by
  unfold entryWork
  split
  · exact .refl s
  · exact entryMoves_reaches _ s

theorem updateZones_reaches (zs : List (Fin 6)) (s : State) : Reaches s (updateZones zs s) := by
  induction zs generalizing s with
  | nil => exact .refl s
  | cons z rest ih => exact ((raiseAll_reaches _ _).view_left (view_setZone s z _)).trans (ih _)

theorem pressureTest_reaches (s : State) : Reaches s (pressureTest s) := (raiseWhen_reaches _ _ _).view_left rfl

theorem tunnelRegulation_reaches (s : State) : Reaches s (tunnelRegulation s) :=
  ((updateZones_reaches _ s).trans (pressureTest_reaches _)).view_right (view_regulateValves _)

theorem addExposure_reaches (n : Nat) (i : Fin 64) (s : State) : Reaches s (addExposure n i s) :=
  (raiseWhen_reaches _ _ _).view_left rfl

theorem accountAll_reaches (n : Nat) (l : List (Fin 64)) (s : State) : Reaches s (accountAll n l s) := by
  induction l generalizing s with
  | nil => exact .refl s
  | cons i rest ih =>
    refine .trans ?_ (ih _)
    unfold accountRecord
    dsimp only
    split
    · exact addExposure_reaches n i s
    · exact .refl s

theorem tunnelAccounting_reaches (n : Nat) (s : State) : Reaches s (tunnelAccounting n s) := by
  unfold tunnelAccounting
  split
  · exact .refl s
  · exact accountAll_reaches _ _ s

/-! ### Roll change -/

/-- The controller with the state of one spindle replaced. -/
theorem view_setSpindle (s : State) (n : SpindleName) (x : Spindle) :
    view (s.withRoll (setSpindle s.roll n x)) = (view s).setSpindle n x.state := by
  cases n <;> rfl

theorem view_spindle (s : State) (n : SpindleName) : (view s).spindle n = (spindle s.roll n).state := by
  cases n <;> rfl

/-- A controller whose spindles and splice state stand. -/
theorem Reaches.of_sameSplice {s : State} {r : RollChange} (ha : r.spindleA.state = s.roll.spindleA.state)
    (hb : r.spindleB.state = s.roll.spindleB.state) (hx : r.splice = s.roll.splice) : Reaches s (s.withRoll r) :=
  .of_view_eq (by simp only [view_withRoll, ha, hb, hx]; rfl)

/-- A controller at its resting state. -/
theorem Reaches.of_rested {s : State} {r : RollChange} (ha : r.spindleA = s.roll.spindleA)
    (hb : r.spindleB = s.roll.spindleB) (hx : r.splice = restingState s.roll) : Reaches s (s.withRoll r) :=
  .of_eq_move (.spliceRests (view s)) (by rw [view_withRoll, ha, hb, hx]; rfl)

/-- A controller that arms, matches or pastes. -/
theorem Reaches.of_spliceGoesOn {s : State} {r : RollChange}
    (h : s.roll.splice = .ready ∨ s.roll.splice = .armed ∨ s.roll.splice = .matching)
    (ha : r.spindleA = s.roll.spindleA) (hb : r.spindleB = s.roll.spindleB) : Reaches s (s.withRoll r) :=
  .of_eq_move (.spliceGoesOn (view s) r.splice h) (by rw [view_withRoll, ha, hb]; rfl)

/-- A controller that enters FAILED. -/
theorem Reaches.of_spliceFails {s : State} {r : RollChange} (ha : r.spindleA = s.roll.spindleA)
    (hb : r.spindleB = s.roll.spindleB) (hx : r.splice = .failed) : Reaches s (s.withRoll r) :=
  .of_eq_move (.spliceFails (view s)) (by rw [view_withRoll, ha, hb, hx]; rfl)

theorem restIfIdle_reaches (s : State) (r : RollChange) : Reaches (s.withRoll r) (s.withRoll (restIfIdle r)) := by
  unfold restIfIdle
  split
  · exact Reaches.of_rested (s := s.withRoll r) rfl rfl rfl
  · exact .refl _

theorem settleSplice_reaches (s : State) : Reaches s (s.withRoll (settleSplice s.roll)) := by
  unfold settleSplice
  split
  · exact .of_rested rfl rfl rfl
  · exact .of_view_eq rfl

theorem freeExpired_reaches (n : SpindleName) (s : State) : Reaches s (freeExpired n s) := by
  unfold freeExpired
  dsimp only
  split
  · rename_i h
    have hfreed : Reaches s (s.withRoll (setSpindle s.roll n
        { Spindle.reset with diameterLost := (spindle s.roll n).diameterLost })) :=
      .of_eq_move (.freed (view s) n ((view_spindle s n).trans h.1)) (view_setSpindle s n _)
    exact hfreed.trans (restIfIdle_reaches s _)
  · exact .refl s

theorem failMatch_reaches {s : State} (h : s.roll.splice = .matching) : Reaches s (failMatch s) := by
  unfold failMatch
  dsimp only
  split
  · exact .raised (.of_spliceGoesOn (.inr (.inr h)) rfl rfl)
  · exact .raised (.raised (.of_spliceFails rfl rfl rfl))

theorem matchingWork_reaches (ts : Timestamp) {s : State} (h : s.roll.splice = .matching) :
    Reaches s (matchingWork ts s) := by
  unfold matchingWork
  generalize (if speedMatches s then s.roll.matchCount + 1 else 0) = n
  dsimp only
  split
  · exact .of_spliceGoesOn (.inr (.inr h)) rfl rfl
  · have hcounted : Reaches s (s.withRoll { s.roll with matchCount := n }) := .of_view_eq rfl
    split
    · exact hcounted.trans (failMatch_reaches h)
    · exact hcounted

theorem swapped_state (p : Position) (x : Spindle) : (swapped p x).state = swappedState x.state := by
  cases h : x.state <;> simp [swapped, swappedState, h]

theorem confirmPaste_reaches {s : State} (h : s.roll.splice = .paste) : Reaches s (confirmPaste s) := by
  have hspan : view (replaceSpan s) = view s := view_replaceSpan s
  have hpaste : (view (replaceSpan s)).splice = .paste := by rw [hspan]; exact h
  refine Reaches.view_left ?_ hspan
  refine .of_eq_move (.confirm _ hpaste) ?_
  simp only [confirmPaste, view_withRoll, swapped_state]
  rfl

theorem pasteWork_reaches (ts : Timestamp) {s : State} (h : s.roll.splice = .paste) : Reaches s (pasteWork ts s) := by
  unfold pasteWork
  split
  · exact confirmPaste_reaches h
  · split
    · exact .raised (.of_spliceFails rfl rfl rfl)
    · exact .refl s

theorem clearWork_reaches (s : State) : Reaches s (clearWork s) := by
  unfold clearWork
  split
  · exact .raised (.of_rested rfl rfl rfl)
  · exact .refl s

theorem spliceWork_reaches (ts : Timestamp) (s : State) : Reaches s (spliceWork ts s) := by
  unfold spliceWork
  split
  · rename_i h
    exact matchingWork_reaches ts h
  · rename_i h
    exact pasteWork_reaches ts h
  · exact clearWork_reaches s
  · rename_i h
    unfold armedWork
    split
    · exact .of_spliceGoesOn (.inr (.inl h)) rfl rfl
    · exact .refl s
  all_goals exact .refl s

theorem armingOn_reaches (ts : Timestamp) (r : TrackRecord) (s : State) : Reaches s (armingOn ts r s) := by
  unfold armingOn
  dsimp only
  split
  · rename_i h
    exact .raised (.of_spliceGoesOn (h.1.imp_right .inl) rfl rfl)
  · split
    · rename_i h
      exact .raised (.of_spliceGoesOn (.inl h.1) rfl rfl)
    · exact .refl s

theorem armingTests_reaches (ts : Timestamp) (s : State) : Reaches s (armingTests ts s) := by
  unfold armingTests
  split
  · split
    · exact armingOn_reaches ts _ s
    · exact .refl s
  · exact .refl s

theorem rollWork_reaches (ts : Timestamp) (s : State) : Reaches s (rollWork ts s) := by
  have hmeasured : Reaches s (runoutTest (measureRolls (freeExpired .b (freeExpired .a s)))) :=
    (((freeExpired_reaches .a s).trans (freeExpired_reaches .b _)).view_right (view_measureRolls _)).trans
      (raiseWhen_reaches _ _ _)
  refine Reaches.view_right ?_ (view_pasteField _)
  refine hmeasured.trans ((spliceWork_reaches ts _).trans ?_)
  split
  · exact armingTests_reaches ts _
  · exact .refl _

theorem beforeDecision_reaches (ts : Timestamp) (s : State) : Reaches s (beforeDecision ts s) :=
  (((foldWork_reaches s).trans (entryWork_reaches _)).trans (tunnelRegulation_reaches _)).trans (rollWork_reaches ts _)

/-! ### The panel sequencer -/

theorem allocate_reaches {s : State} (h : lineRunning s.gov.line = true) (r : TrackRecord) :
    Reaches s (allocate s r) := by
  unfold allocate
  split
  · exact .refl s
  · rename_i i rest hfree
    exact .of_move (.openHead (view s) i rest h hfree)

theorem openGap_reaches {s : State} (h : lineRunning s.gov.line = true) (g : GapReason) : Reaches s (openGap g s) :=
  (allocate_reaches h _).view_right (view_resetRatio _)

/-- The opened panel's context is set and its first requests are issued. -/
theorem withPanel_reaches {s : State} {x : Sequencer} (c : Option PanelContext)
    (hx : x.openRecord = s.seq.openRecord) :
    Reaches s (issueRequests ((s.withSeq x).withFolds { s.folds with context := c })) :=
  (issueRequests_reaches _).view_left (by rw [view_withFolds, view_withSeq, hx]; rfl)

theorem openPanel_reaches {s : State} (h : lineRunning s.gov.line = true) : Reaches s (openPanel s).1 := by
  have hopens := fun r => allocate_reaches h r
  unfold openPanel
  split
  · dsimp only
    split
    · exact hopens _
    · exact (hopens _).trans (withPanel_reaches _ rfl)
  · exact .refl s

theorem openSplice_reaches (ts : Timestamp) {s : State} (h : lineRunning s.gov.line = true) :
    Reaches s (openSplice ts s) := by
  unfold openSplice
  extract_lets r t
  have hopens : Reaches s t := (allocate_reaches h _).view_right (view_resetRatio _)
  split
  · rename_i hready
    exact hopens.trans (Reaches.of_spliceGoesOn (hready.imp_right .inl) rfl rfl)
  · exact hopens

theorem openOutcome_reaches (ts : Timestamp) (o : DecisionOutcome) {s : State} (h : lineRunning s.gov.line = true) :
    Reaches s (openOutcome ts o s).1 := by
  cases o with
  | panel => exact openPanel_reaches h
  | splice => exact openSplice_reaches ts h
  | gap g => exact openGap_reaches h g

theorem closeFlat_reaches (s : State) : Reaches s (closeFlat s) := .of_eq_move (.close (view s)) (view_closeFlat s)

theorem decideAfterClosing_reaches (ts : Timestamp) {s : State} (h : lineRunning s.gov.line = true) :
    Reaches s (decideAfterClosing ts s).1 :=
  (openOutcome_reaches ts _ (by simpa using h)).view_left (view_panelDecision s)

theorem applyToGap_reaches (ts : Timestamp) (o : DecisionOutcome) {s : State} (h : lineRunning s.gov.line = true) :
    Reaches s (applyToGap ts o s).1 := by
  unfold applyToGap
  split
  · exact .of_view_eq (view_setGapReason _ _)
  · exact (closeFlat_reaches s).trans (openOutcome_reaches ts _ (by simpa using h))

theorem decideForGap_reaches (ts : Timestamp) (s : State) : Reaches s (decideForGap ts s) := by
  unfold decideForGap
  dsimp only
  have hraised : Reaches s (raiseWhileRunning (panelDecision s).2.2 (panelDecision s).1) :=
    (raiseWhileRunning_reaches _ _).view_left (view_panelDecision s)
  split
  · rename_i hrun
    exact hraised.trans ((applyToGap_reaches ts _ (by simp [lineRunning, hrun])).trans (raiseAll_reaches _ _))
  · exact hraised

theorem closePanel_line (i : Fin 64) (s : State) : (closePanel i s).1.gov.line = s.gov.line := by
  unfold closePanel
  dsimp only
  split <;> simp

theorem view_dropContext (s : State) : view (dropContext s) = { view s with inFlight := 0 } := by
  simp only [dropContext, view_withSeq, view_withFolds, inFlight_eq, liveRequests, List.filter_map]
  simp
  exact ⟨rfl, rfl⟩

theorem closePanel_reaches (i : Fin 64) (s : State) : Reaches s (closePanel i s).1 := by
  have hclose : ∀ t : State, Reaches t (noOpenRecord (closeAgainstJoint (dropContext t) i)) := fun t =>
    ((Reaches.of_eq_move (.lessWork (view t) 0 (view t).queued (Nat.zero_le _) (by omega)) (view_dropContext t)).view_right
      (view_closeAgainstJoint _ i)).trans (.of_move (.close _))
  unfold closePanel
  dsimp only
  split
  · exact ((hclose _).view_left (view_updateRecord _ _ _)).view_right rfl
  · exact (hclose _).view_left (view_updateRecord _ _ _)

theorem sequencerOn_reaches (ts : Timestamp) (i : Fin 64) (s : State) : Reaches s (sequencerOn ts i s).1 := by
  unfold sequencerOn
  dsimp only
  split
  · split
    · rename_i h
      have hrun : lineRunning (closePanel i s).1.gov.line = true := by
        rw [closePanel_line]
        exact ((Bool.and_eq_true _ _).mp h).1
      exact (closePanel_reaches i s).trans (decideAfterClosing_reaches ts hrun)
    · exact .refl s
  · split
    · exact decideForGap_reaches ts s
    · exact .refl s
  · split
    · rename_i h
      have hrun : lineRunning (closeFlat s).gov.line = true := by simp_all
      exact (closeFlat_reaches s).trans (decideAfterClosing_reaches ts hrun)
    · exact .refl s
  · exact .refl s

theorem sequencerOutcome_reaches (ts : Timestamp) (s : State) : Reaches s (sequencerOutcome ts s).1 := by
  unfold sequencerOutcome
  split
  · exact .refl s
  · split
    · exact .refl s
    · exact sequencerOn_reaches ts _ s

theorem webWork_reaches (ts : Timestamp) (s : State) : Reaches s (webWork ts s) :=
  (beforeDecision_reaches ts s).trans ((sequencerOutcome_reaches ts _).trans (raiseAll_reaches _ _))

/-! ### The line supervisor and governor -/

/-- A governor that the laws read as before. -/
theorem Reaches.of_sameSpeeds {s : State} {g : Governor} (hl : g.line = s.gov.line) (hc : g.command = s.gov.command)
    (hv : g.vSet = s.gov.vSet) (hm : g.settings = s.gov.settings) : Reaches s (s.withGov g) :=
  .of_view_eq (by rw [view_withGov, hl, hc, hv, hm]; rfl)

theorem drainTests_reaches (s : State) : Reaches s (drainTests s) := by
  unfold drainTests
  split
  · rename_i h
    have hrun : s.gov.line = .run := by simp_all
    exact .of_move (.stopping (view s) hrun)
  · exact .refl s

theorem enterStopped_reaches (s : State) : Reaches s (enterStopped s) := by
  have hstopped : Reaches (closeFlat s) ((closeFlat s).withGov
      { (closeFlat s).gov with line := .stopped, rampStarted := false }) :=
    .of_move (.stopped _ (by rw [view_closeFlat]))
  exact .raised (((closeFlat_reaches s).trans hstopped).trans (settleSplice_reaches _))

theorem stopTest_reaches (s : State) : Reaches s (stopTest s) := by
  unfold stopTest
  split
  · exact enterStopped_reaches s
  · exact .refl s

theorem listenStop_reaches (s : State) : Reaches s (listenStop s) := by
  unfold listenStop
  split
  · rename_i h
    refine .of_eq_move (.ramp (view s) 0 (Nat.zero_le _)) ?_
    have hhalted : (view s).line = .halted ∧ (0 : Nat) = 0 := ⟨h.1, rfl⟩
    rw [view_closeHalted, View.atCommand, if_pos hhalted]
    rfl
  · exact .refl s

theorem compose_reaches (s : State) : Reaches s (compose s) := by
  unfold compose
  split
  · exact .raisedAll (.of_sameSpeeds rfl rfl rfl rfl)
  · exact .of_sameSpeeds rfl rfl rfl rfl

/-- A ramp step takes the command above neither what it was nor V_max (R135). -/
theorem ramped_le (g : Governor) : ramped g ≤ max g.command g.settings.vMax := by
  unfold ramped
  split
  · exact (Nat.min_le_right _ _).trans (Nat.le_max_right _ _)
  · omega

theorem rampStep_reaches (s : State) : Reaches s (rampStep s) := by
  refine .of_eq_move (.ramp (view s) (ramped s.gov) (ramped_le s.gov)) ?_
  rw [rampStep, view_settleHalted]
  rfl

theorem infeedStep_reaches (r : Nat) (s : State) : Reaches s (infeedStep r s) :=
  .raisedWhen (.of_sameSpeeds rfl rfl rfl rfl)

theorem governorStep_reaches (r : Nat) (x : SpliceState) (s : State) : Reaches s (governorStep r x s) :=
  (((compose_reaches s).trans (rampStep_reaches _)).trans (infeedStep_reaches r _)).view_right (view_spindleStep x _)

theorem lineWork_reaches (n r : Nat) (x : SpliceState) (ts : Timestamp) (s : State) : Reaches s (lineWork n r x ts s) :=
  ((((tunnelAccounting_reaches n s).trans (drainTests_reaches _)).trans (governorStep_reaches r x _)).trans
    (stopTest_reaches _)).view_right (view_transitWork ts _)

/-! ### The take-off -/

theorem dwellChecks_reaches (i : Fin 64) (s : State) : Reaches s (dwellChecks i s) := by
  unfold dwellChecks
  dsimp only
  split
  · split
    · exact ((raiseWhen_reaches _ _ _).trans (raiseWhen_reaches _ _ _)).view_left (view_setRecord _ _ _)
    · exact .refl s
  · exact .refl s

/-- A raising moves no record between the lists. -/
theorem leaveTunnel_reaches {i : Fin 64} {rest : List (Fin 64)} {s : State} (h : s.track.tunnel = i :: rest) :
    Reaches s (leaveTunnel i rest s) := by
  have htunnel : (view (dwellChecks i s)).tunnel = i :: rest := by simpa [view] using h
  exact (dwellChecks_reaches i s).trans (.of_move (.leaveTunnel _ i rest htunnel))

theorem exitMoves_reaches (ts : Timestamp) (n : Nat) (s : State) : Reaches s (exitMoves ts n s) := by
  induction n generalizing s with
  | zero => exact .refl s
  | succ n ih =>
    unfold exitMoves
    split
    · exact .refl s
    · rename_i i rest h
      split
      · exact ((leaveTunnel_reaches (by simpa using h)).view_left (view_stampRecord ts i s)).trans (ih _)
      · exact .refl s

theorem exitWork_reaches (ts : Timestamp) (s : State) : Reaches s (exitWork ts s) := by
  unfold exitWork
  split
  · exact .refl s
  · exact exitMoves_reaches ts _ s

theorem cutHead_reaches {i : Fin 64} {rest : List (Fin 64)} {s : State} (h : s.track.exit = i :: rest) :
    Reaches s (cutHead i rest s) :=
  (Reaches.of_move (t := (s.withTakeOff { s.takeOff with gate := fateOf (recordAt s i) }).withTrack
    { s.track with exit := rest, done := s.track.done ++ [i] }) (.cut (view s) i rest h)).trans (raiseAll_reaches _ _)

theorem cuts_reaches (n : Nat) (s : State) : Reaches s (cuts n s) := by
  induction n generalizing s with
  | zero => exact .refl s
  | succ n ih =>
    unfold cuts
    split
    · exact .refl s
    · rename_i i rest h
      split
      · exact (cutHead_reaches h).trans (ih _)
      · exact .refl s

theorem takeOffWork_reaches (s : State) : Reaches s (takeOffWork s) := by
  refine Reaches.view_right ?_ (view_formCutEntry _)
  split
  · exact .refl s
  · exact cuts_reaches _ s

/-! ### Arrivals and frames before their requests -/

theorem activeWork_reaches (n : Nat) (ts : Timestamp) (s : State) : Reaches s (activeWork n ts s) :=
  (((webWork_reaches ts s).trans (lineWork_reaches n _ _ ts _)).trans (exitWork_reaches ts _)).trans
    (takeOffWork_reaches _)

theorem arrivalWork_reaches (n : Nat) (f : Frame) (s : State) : Reaches s (arrivalWork n f s) := by
  unfold arrivalWork
  dsimp only
  refine (sampleWork_reaches f s).trans ?_
  split
  · exact activeWork_reaches n _ _
  · exact listenStop_reaches _

theorem arrival_reaches (f : Frame) (s : State) : Reaches s (arrival f s) :=
  ((examineGood_reaches f s).view_right (view_countArrival _)).trans (arrivalWork_reaches _ f _)

theorem frameWork_reaches (f : Frame) (s : State) : Reaches s (frameWork f s) := by
  unfold frameWork
  split
  · exact badFrame_reaches _ s
  · split
    · exact arrival_reaches f s
    · exact goodOutside_reaches f s

end Sys2Proof.Proofs

/-! A frame with its request, the service requests, the events and a whole step, as chains of moves. -/

namespace Sys2Proof.Proofs

open Machine Statements Safety

/-! ### Requests that change nothing the laws read -/

theorem view_refuse (s : State) (st : Status) (v a b : Nat) : view (refuse s st v a b).1 = view s := rfl

theorem view_goActive (s : State) : view (goActive s).1 = view s := by
  unfold goActive
  repeat' split
  all_goals rfl

theorem view_goListen (s : State) : view (goListen s).1 = view s := by
  unfold goListen
  repeat' split
  all_goals rfl

theorem view_resync (s : State) : view (resync s).1 = view s := by
  unfold resync
  split <;> rfl

theorem view_identify (c : Nat) (s : State) : view (identify c s).1 = view s := by
  unfold identify
  split
  · rfl
  · dsimp only
    split <;> rfl

theorem view_writeWindow (d n : Nat) (b : WindowArg) (s : State) : view (writeWindow d n b s).1 = view s := by
  unfold writeWindow
  repeat' split
  all_goals rfl

theorem view_writeCommandMap (n : Nat) (o : OptArg) (s : State) : view (writeCommandMap n o s).1 = view s := by
  unfold writeCommandMap
  repeat' split
  all_goals rfl

theorem view_setCycle (p n : Nat) (s : State) : view (setCycle p n s).1 = view s := by
  unfold setCycle
  repeat' split
  all_goals rfl

theorem view_writeConversion (n : Nat) (a : ConversionArgs) (s : State) : view (writeConversion n a s).1 = view s := by
  unfold writeConversion
  repeat' split
  all_goals rfl

theorem view_readQuantity (n m : Nat) (s : State) : view (readQuantity n m s).1 = view s := by
  unfold readQuantity
  split
  · dsimp only
    split <;> rfl
  · rfl

theorem view_writeLineSetup (g : Nat) (a : GroupArgs) (s : State) : view (writeLineSetup g a s).1 = view s := by
  unfold writeLineSetup
  repeat' split
  all_goals rfl

theorem view_setLines (ps : List (Nat × Nat)) (s : State) : view (setLines ps s).1 = view s := by
  unfold setLines
  repeat' split
  all_goals rfl

theorem view_readPattern (n : Nat) (s : State) : view (readPattern n s).1 = view s := by
  unfold readPattern
  repeat' split
  all_goals rfl

theorem view_appendRun (p c t : Nat) (s : State) : view (appendRun p c t s).1 = view s := by
  unfold appendRun
  repeat' split
  all_goals rfl

theorem view_setOrderLow (n : Nat) (s : State) : view (setOrderLow n s).1 = view s := by
  unfold setOrderLow
  split <;> rfl

theorem view_writeGeometry (g : Geometry) (s : State) : view (writeGeometry g s).1 = view s := by
  unfold writeGeometry
  repeat' split
  all_goals rfl

theorem view_readList (n : Nat) (s : State) : view (readList n s).1 = view s := by
  unfold readList
  split <;> rfl

theorem view_readRecord (n : Nat) (s : State) : view (readRecord n s).1 = view s := by
  unfold readRecord
  split <;> rfl

theorem view_writeZone (n : Nat) (a : ZoneArgs) (s : State) : view (writeZone n a s).1 = view s := by
  unfold writeZone
  repeat' split
  all_goals rfl

theorem view_zoneEnable (n w : Nat) (s : State) : view (zoneEnable n w s).1 = view s := by
  unfold zoneEnable
  repeat' split
  all_goals rfl

theorem view_setPressureMin (n : Nat) (s : State) : view (setPressureMin n s).1 = view s := by
  unfold setPressureMin
  split <;> rfl

theorem view_writeSpliceSettings (a b c : Nat) (s : State) : view (writeSpliceSettings a b c s).1 = view s := by
  unfold writeSpliceSettings
  split <;> rfl

theorem view_writeNoticeRoute (a b c d : Nat) (s : State) : view (writeNoticeRoute a b c d s).1 = view s := by
  unfold writeNoticeRoute
  repeat' split
  all_goals rfl

/-! ### Requests that move the line, the records, the patterns and the rolls -/

/-- The totals a pattern is stored with are those of its record. -/
theorem patternOf_totalsHold (kinds : Vector FoldKind 16) (a : PatternArgs) : TotalsHold kinds (patternOf kinds a) :=
  ⟨rfl, rfl⟩

theorem writePattern_reaches (n : Nat) (a : PatternArgs) (s : State) : Reaches s (writePattern n a s).1 := by
  unfold writePattern
  split
  · rename_i p _ _
    split
    · exact .refl s
    · split
      · exact .refl s
      · exact .raisedWhen (.of_move (.storePattern (view s) p _ (patternOf_totalsHold _ a)))
  · exact .refl s

theorem deletePattern_reaches (n : Nat) (s : State) : Reaches s (deletePattern n s).1 := by
  unfold deletePattern
  split
  · exact .refl s
  · rename_i p _
    split
    · exact .refl s
    · split
      · exact .refl s
      · exact .of_move (.deletePattern (view s) p)

theorem writeFoldKind_reaches (k m l a : Nat) (s : State) : Reaches s (writeFoldKind k m l a s).1 := by
  unfold writeFoldKind
  split
  · exact .refl s
  · split
    · rename_i i _ _ _
      split
      · dsimp only
        split
        · exact .refl s
        · exact .raisedWhen (.of_move (.foldKind (view s) i _))
      · exact .refl s
    · exact .refl s

theorem collect_reaches (e : OptArg) (s : State) : Reaches s (collect e s).1 := by
  unfold collect
  split
  · exact .refl s
  · split
    · exact .refl s
    · rename_i i rest hdone
      split
      · exact .refl s
      · exact .of_move (.collect (view s) i rest hdone)

theorem enterConfig_reaches (s : State) : Reaches s (enterConfig s).1 := by
  unfold enterConfig
  split
  · rename_i h
    exact .of_move (.rest (view s) .configure (.inr (.inl h)) (.inl rfl))
  all_goals exact .refl s

theorem leaveConfig_reaches (s : State) : Reaches s (leaveConfig s).1 := by
  unfold leaveConfig
  split
  · exact .refl s
  · rename_i h
    split
    · exact .refl s
    · exact .of_move (.rest (view s) .stopped (.inl (not_not.mp h)) (.inr rfl))

theorem spindleIn_isSome (r : RollChange) (x : SpindleState) :
    (spindleIn r x).isSome = true ↔ r.spindleA.state = x ∨ r.spindleB.state = x := by
  unfold spindleIn
  by_cases ha : r.spindleA.state = x
  · simp [ha]
  · by_cases hb : r.spindleB.state = x <;> simp [ha, hb]

/-- The RESTART gap opens while the governor is still to enter RUN; it reads nothing of the governor (R95). -/
theorem openGap_withGov (g : GapReason) (x : Governor) (s : State) :
    (openGap g s).withGov x = openGap g (s.withGov x) := by
  have hrec : openedRecord (s.withGov x) .gap = openedRecord s .gap := rfl
  unfold openGap
  rw [hrec]
  unfold allocate
  cases h : s.track.free with
  | nil => simp only [State.withGov_track, h]; rfl
  | cons i rest => simp only [State.withGov_track, h]; rfl

theorem startLine_reaches (s : State) : Reaches s (startLine s).1 := by
  unfold startLine
  split
  · exact .refl s
  · rename_i h
    have hfed : (spindleIn s.roll .active).isSome = true := (firstFailing_none _).mp h _ (by simp [startConditions])
    have hrun : Reaches s (s.withGov { s.gov with line := .run }) :=
      .of_move (.start (view s) ((spindleIn_isSome _ _).mp hfed))
    dsimp only
    rw [openGap_withGov]
    exact hrun.trans (openGap_reaches rfl _)

theorem stopLine_reaches (s : State) : Reaches s (stopLine s).1 := by
  unfold stopLine
  split
  · rename_i h
    exact (Reaches.of_move (.stopping (view s) h)).view_right (view_setGapReason _ _)
  all_goals exact .refl s

theorem ackHalt_reaches (s : State) : Reaches s (ackHalt s).1 := by
  unfold ackHalt
  split
  · exact .refl s
  · rename_i hline
    split
    · exact .refl s
    · rename_i hspeed
      split
      · exact .refl s
      · have hstands : (view s).stands := .inr (.inr ⟨not_not.mp hline, not_not.mp hspeed⟩)
        have hstopped : Reaches s (s.withGov { s.gov with line := .stopped, rampStarted := false }) :=
          .of_move (.rest (view s) .stopped hstands (.inr rfl))
        exact hstopped.trans (settleSplice_reaches _)

theorem setSpeed_reaches (v : Nat) (s : State) : Reaches s (setSpeed v s).1 := by
  unfold setSpeed
  split
  · exact .refl s
  · exact .of_move (.setSpeed (view s) _ (Nat.min_le_right _ _))

theorem writeSpeedLimits_reaches (x : SpeedSettings) (s : State) : Reaches s (writeSpeedLimits x s).1 := by
  unfold writeSpeedLimits
  split
  · exact .refl s
  · rename_i h
    have hmax : within 1 1000000 x.vMax = true := (firstFailing_none _).mp h _ (by simp [speedChecks])
    exact .of_move (.limits (view s) x.vMax ((within_iff _ _ _).mp hmax).1)

/-- A controller taken to its resting state where a condition holds. -/
theorem restedWhen_reaches (s : State) (r : RollChange) (c : Prop) [Decidable c] :
    Reaches (s.withRoll r) (s.withRoll (if c then { r with splice := restingState r } else r)) := by
  split
  · exact Reaches.of_rested (s := s.withRoll r) rfl rfl rfl
  · exact .refl _

theorem spindleIn_none (r : RollChange) (x : SpindleState) :
    spindleIn r x = none ↔ r.spindleA.state ≠ x ∧ r.spindleB.state ≠ x := by
  rw [← Option.not_isSome_iff_eq_none, spindleIn_isSome, not_or]

theorem loadRoll_reaches (n t c k h : Nat) (s : State) : Reaches s (loadRoll n t c k h s).1 := by
  unfold loadRoll
  split
  · rename_i m th _ _
    split
    · dsimp only
      split
      · exact .refl s
      · rename_i hempty
        split
        · exact .refl s
        · have hfills : ∀ x : Spindle, (x.state = .loaded ∨ (x.state = .active ∧ spindleIn s.roll .active = none)) →
              Reaches s (s.withRoll { setSpindle s.roll m x with attempts := 0 }) := fun x hx =>
            .of_eq_move (.load (view s) m x.state ((view_spindle s m).trans (not_not.mp hempty))
              (hx.imp_right fun ⟨hact, hnone⟩ => ⟨hact, (spindleIn_none _ _).mp hnone⟩)) (by cases m <;> rfl)
          refine Reaches.trans (hfills _ ?_) (restedWhen_reaches s _ _)
          dsimp only
          split
          · rename_i hact
            exact .inr ⟨rfl, hact.2⟩
          · exact .inl rfl
    · exact .refl s
  · exact .refl s

/-- A line at rest stands. -/
theorem stands_of_atRest {s : State} (h : atRest s.gov = true) : (view s).stands := by
  have h' : s.gov.line = .stopped ∨ s.gov.line = .configure ∨ s.gov.line = .halted ∧ s.gov.command = 0 := by
    simpa [atRest, or_assoc] using h
  exact or_left_comm.mp h'

/-- What UNLOAD_ROLL lets go: an EXPIRED spindle, or one in a splice state that does not need it, an ACTIVE one of a line
that stands (R162). -/
theorem unload_allowed {s : State} {n : SpindleName} (h : ¬unloadRefused s (spindle s.roll n) = true) :
    (spindle s.roll n).state = .expired
      ∨ ((s.roll.splice ≠ .matching ∧ s.roll.splice ≠ .paste)
        ∧ ((spindle s.roll n).state = .active → (view s).stands)) := by
  unfold unloadRefused at h
  split at h
  · exact absurd rfl h
  · rename_i hloaded
    exact .inr ⟨by simpa using h, fun hactive => absurd (hloaded.symm.trans hactive) (by decide)⟩
  · have h' : atRest s.gov = true ∧ spliceUnderWay s.roll.splice = false := by simpa using h
    have hsplice : s.roll.splice ≠ .matching ∧ s.roll.splice ≠ .paste := by
      have := h'.2
      simp [spliceUnderWay] at this
      exact this.1
    exact .inr ⟨hsplice, fun _ => stands_of_atRest h'.1⟩
  · rename_i hexpired
    exact .inl hexpired

/-- The spindle is taken off, and a controller in STANDBY, READY or ARMED enters its resting state (R162). -/
theorem takenOff_reaches {s : State} {n : SpindleName} (h : ¬unloadRefused s (spindle s.roll n) = true) {x : Spindle}
    (hx : x.state = .empty) :
    Reaches s (s.withRoll (if (setSpindle s.roll n x).splice = .standby ∨ (setSpindle s.roll n x).splice = .ready
        ∨ (setSpindle s.roll n x).splice = .armed
      then { setSpindle s.roll n x with splice := restingState (setSpindle s.roll n x) } else setSpindle s.roll n x)) := by
  obtain hexpired | ⟨hsplice, hactive⟩ := unload_allowed h
  · have hfreed : Reaches s (s.withRoll (setSpindle s.roll n x)) :=
      .of_eq_move (.freed (view s) n ((view_spindle s n).trans hexpired)) ((view_setSpindle s n x).trans (by rw [hx]))
    exact hfreed.trans (restedWhen_reaches s _ _)
  · refine .of_eq_move (.unload (view s) n hsplice fun ha => hactive ((view_spindle s n).symm.trans ha)) ?_
    have hkept : (setSpindle s.roll n x).splice = s.roll.splice := by cases n <;> rfl
    rw [hkept, ← hx, ← view_setSpindle]
    split
    · rename_i hidle
      exact (if_pos (c := (view s).splice = _ ∨ _) hidle).symm
    · rename_i hidle
      exact (if_neg (c := (view s).splice = _ ∨ _) hidle).symm

theorem unloadRoll_reaches (n : Nat) (s : State) : Reaches s (unloadRoll n s).1 := by
  have hbudget : ∀ r : RollChange, Reaches (s.withRoll r)
      (s.withRoll (if spindleIn r .active = none then { r with budget := 0 } else r)) := by
    intro r
    split <;> exact .of_view_eq rfl
  unfold unloadRoll
  split
  · exact .refl s
  · dsimp only
    split
    · exact .refl s
    · rename_i hallowed
      exact (takenOff_reaches hallowed rfl).trans (hbudget _)

theorem spliceCancel_reaches (s : State) : Reaches s (spliceCancel s).1 := by
  unfold spliceCancel
  split
  · exact settleSplice_reaches s
  · exact .refl s

theorem raiseTest_reaches (s : State) : Reaches s (raiseTest s).1 := raiseNotice_reaches _ s

/-- A halt or a RESET leaves only abandoned requests. -/
theorem inFlight_haltFolds (s : State) : inFlight (haltFolds s).folds = 0 := congrArg View.inFlight (view_haltFolds s)

theorem resetRun_reaches (s : State) : Reaches s (resetRun s).1 := by
  unfold resetRun
  split
  · rename_i h
    have hcleared : Reaches s ((clearRun s).withRoll s.roll) := by
      have hflight : inFlight ((clearRun s).withRoll s.roll).folds = 0 := inFlight_haltFolds s
      refine .of_eq_move (.resetRun (view s) (stands_of_atRest h)) ?_
      unfold view
      rw [hflight]
      rfl
    exact hcleared.trans (Reaches.of_rested (s := (clearRun s).withRoll s.roll) (r := (clearRun s).roll)
      (by simp [clearRun, RollChange.afterRun]) (by simp [clearRun, RollChange.afterRun])
      (by simp [clearRun, RollChange.afterRun]))
  · exact .refl s

theorem clearFull_reaches (s : State) : Reaches s (clearFull s) := by
  have hflight : inFlight (clearFull s).folds = 0 := inFlight_haltFolds s
  refine .of_eq_move (.powerOn (view s)) ?_
  unfold view
  rw [hflight]
  rfl

/-! ### Any request, any frame, any command -/

/-- Whatever a request does, moves lead to it. -/
theorem serve_reaches (i : Instr) (s : State) : Reaches s (serve i s).1 := by
  cases i with
  | writePattern n a => exact writePattern_reaches n a s
  | deletePattern n => exact deletePattern_reaches n s
  | writeFoldKind k m l a => exact writeFoldKind_reaches k m l a s
  | collect e => exact collect_reaches e s
  | enterConfig => exact enterConfig_reaches s
  | leaveConfig => exact leaveConfig_reaches s
  | start => exact startLine_reaches s
  | stop => exact stopLine_reaches s
  | ackHalt => exact ackHalt_reaches s
  | setSpeed v => exact setSpeed_reaches v s
  | writeSpeedLimits x => exact writeSpeedLimits_reaches x s
  | loadRoll n t c k h => exact loadRoll_reaches n t c k h s
  | unloadRoll n => exact unloadRoll_reaches n s
  | spliceCancel => exact spliceCancel_reaches s
  | raiseTest => exact raiseTest_reaches s
  | resetRun => exact resetRun_reaches s
  | resetFull => exact clearFull_reaches s
  | goActive => exact .of_view_eq (view_goActive s)
  | goListen => exact .of_view_eq (view_goListen s)
  | resync => exact .of_view_eq (view_resync s)
  | identify c => exact .of_view_eq (view_identify c s)
  | writeWindow d n b => exact .of_view_eq (view_writeWindow d n b s)
  | writeCommandMap n o => exact .of_view_eq (view_writeCommandMap n o s)
  | setCycle p n => exact .of_view_eq (view_setCycle p n s)
  | writeConversion n a => exact .of_view_eq (view_writeConversion n a s)
  | readQuantity n m => exact .of_view_eq (view_readQuantity n m s)
  | writeLineSetup g a => exact .of_view_eq (view_writeLineSetup g a s)
  | setLines ps => exact .of_view_eq (view_setLines ps s)
  | readPattern n => exact .of_view_eq (view_readPattern n s)
  | appendRun p c t => exact .of_view_eq (view_appendRun p c t s)
  | setOrderLow n => exact .of_view_eq (view_setOrderLow n s)
  | writeGeometry g => exact .of_view_eq (view_writeGeometry g s)
  | readList n => exact .of_view_eq (view_readList n s)
  | readRecord n => exact .of_view_eq (view_readRecord n s)
  | writeZone n a => exact .of_view_eq (view_writeZone n a s)
  | zoneEnable n w => exact .of_view_eq (view_zoneEnable n w s)
  | setPressureMin n => exact .of_view_eq (view_setPressureMin n s)
  | writeSpliceSettings a b c => exact .of_view_eq (view_writeSpliceSettings a b c s)
  | writeNoticeRoute a b c d => exact .of_view_eq (view_writeNoticeRoute a b c d s)
  | _ => exact .of_view_eq rfl

theorem handleRequest_reaches (f : Frame) (s : State) : Reaches s (handleRequest f s).1 := by
  unfold handleRequest
  split
  · exact serve_reaches _ s
  · exact .refl s

theorem finishArrival_reaches (f : Frame) (s : State) : Reaches s (finishArrival f s) := by
  unfold finishArrival
  dsimp only
  split
  · exact (handleRequest_reaches f s).view_right rfl
  · exact .of_view_eq rfl

theorem handleFrame_reaches (f : Frame) (s : State) : Reaches s (handleFrame f s) := by
  unfold handleFrame
  split
  · exact (badFrame_reaches _ s).view_right rfl
  · split
    · exact (arrival_reaches f s).trans (finishArrival_reaches f _)
    · exact (goodOutside_reaches f s).view_right rfl

theorem receive_reaches (rx : Reception) (s : State) : Reaches s (receive rx s) :=
  (atReception_reaches rx s).trans (handleFrame_reaches _ _)

theorem inFrame_reaches {due : State → State → Bool} {rx : Reception} {s t : State} (h : inFrame due rx s = .next t) :
    Reaches s t := by
  obtain hframe | hnone := inFrame_cases due rx s
  · obtain rfl : receive rx s = t := by simpa [hframe] using h
    exact receive_reaches rx s
  · obtain rfl : s.withReply none = t := by simpa [hnone] using h
    exact .of_view_eq rfl

theorem take_reaches {i : Instr} {s t : State} (h : take (serve i) s = .next t) : Reaches s t := by
  unfold take at h
  split at h
  · obtain rfl : (serve i s).1.withReply (some (serve i s).2) = t := by simpa using h
    exact (serve_reaches i s).view_right rfl
  · obtain rfl : s.withReply none = t := by simpa using h
    exact .of_view_eq rfl

theorem silenceTimeout_reaches {s t : State} (h : execSilenceTimeout s = .next t) : Reaches s t := by
  unfold execSilenceTimeout at h
  split at h
  · split at h
    · rename_i d _ _
      obtain rfl : expireSilence ((s.withReply none).withTimer (max s.timer d)) = t := by simpa using h
      exact (expireSilence_reaches _).view_left rfl
    · obtain rfl : s.withReply none = t := by simpa using h
      exact .of_view_eq rfl
  · obtain rfl : s.withReply none = t := by simpa using h
    exact .of_view_eq rfl

theorem exec_reaches {i : Instr} {s t : State} (h : exec i s = .next t) : Reaches s t := by
  by_cases hr : (Decode.requestBytes i).isSome = true
  · rw [exec_request i hr] at h
    exact take_reaches h
  · cases i with
    | powerOn straps =>
      have hv : view t = view State.reset := by
        have : t = _ := (Host.Outcome.next.inj h).symm
        rw [this]
        rfl
      exact .of_eq_move (.powerOn (view s)) hv
    | cycleFrame rx =>
      obtain rfl : receive rx s = t := Host.Outcome.next.inj h
      exact receive_reaches rx s
    | foldCompletion =>
      obtain rfl : completeRequest (s.withReply none) = t := Host.Outcome.next.inj h
      exact (completeRequest_reaches _).view_left rfl
    | silenceTimeout => exact silenceTimeout_reaches h
    | syncComplete rx => exact inFrame_reaches h
    | badFrameRunFault rx => exact inFrame_reaches h
    | faultRecovery rx => exact inFrame_reaches h
    | quantityStale q rx => exact inFrame_reaches h
    | zoneSettled z rx => exact inFrame_reaches h
    | matchComplete rx => exact inFrame_reaches h
    | matchTimeout rx => exact inFrame_reaches h
    | pasteTimeout rx => exact inFrame_reaches h
    | trimAtLimitCount rx => exact inFrame_reaches h
    | _ => exact absurd rfl hr

/-- Whatever a step does to the items that the laws read, moves lead to it. -/
theorem step_reaches {s t : State} (h : step s = .next t) : Reaches s t := by
  unfold step at h
  split at h
  · obtain rfl : s = t := Host.Outcome.next.inj h
    exact .refl s
  · exact (exec_reaches h).view_left rfl

end Sys2Proof.Proofs

/-! The six laws that every step keeps (O38 to O43): each is a property of the view that every move keeps. -/

namespace Sys2Proof.Proofs

open Machine Statements Safety

/-! ### The five lists (R105) -/

/-- The five lists of a view, one after another. -/
def View.listed (v : View) : List (Fin 64) := v.free ++ v.runout ++ v.tunnel ++ v.exit ++ v.done

/-- Each record stands in exactly one list. -/
def ListsWhole (v : View) : Prop := v.listed.Nodup ∧ v.listed.length = 64

theorem ListsWhole.of_perm {v w : View} (h : ListsWhole v) (hp : w.listed.Perm v.listed) : ListsWhole w :=
  ⟨hp.nodup_iff.mpr h.1, hp.length_eq.trans h.2⟩

/-- The head of a list joins the tail of another. -/
theorem perm_head_moved (l : List (Fin 64)) (i : Fin 64) (rest after : List (Fin 64)) :
    (rest ++ (after ++ [i]) ++ l).Perm (i :: rest ++ after ++ l) := by
  have : (rest ++ (after ++ [i])).Perm (i :: (rest ++ after)) := by
    rw [← List.append_assoc]
    exact List.perm_append_singleton i _
  exact this.append_right l

/-- Every record in FREE (R118). -/
theorem listsWhole_of_allFree {v : View} (h : v.listed = List.finRange 64) : ListsWhole v := by
  rw [ListsWhole, h]
  exact ⟨List.nodup_finRange 64, List.length_finRange⟩

theorem move_keeps_listsWhole {v w : View} (h : Move v w) (hv : ListsWhole v) : ListsWhole w := by
  cases h with
  | openHead i rest _ hfree =>
    refine hv.of_perm ?_
    simp only [View.listed, hfree]
    simpa using perm_head_moved (v.tunnel ++ (v.exit ++ v.done)) i rest v.runout
  | enterTunnel i rest hrunout =>
    refine hv.of_perm ?_
    simp only [View.listed, hrunout]
    simpa using (perm_head_moved (v.exit ++ v.done) i rest v.tunnel).append_left v.free
  | leaveTunnel i rest htunnel =>
    refine hv.of_perm ?_
    simp only [View.listed, htunnel]
    simpa using (perm_head_moved v.done i rest v.exit).append_left (v.free ++ v.runout)
  | cut i rest hexit =>
    refine hv.of_perm ?_
    simp only [View.listed, hexit]
    simpa using (perm_head_moved [] i rest v.done).append_left (v.free ++ v.runout ++ v.tunnel)
  | collect i rest hdone =>
    refine hv.of_perm ?_
    simp only [View.listed, hdone]
    simpa using (List.perm_middle (l₁ := v.runout ++ (v.tunnel ++ v.exit))).symm.append_left v.free
  | resetRun _ => exact listsWhole_of_allFree rfl
  | powerOn => exact listsWhole_of_allFree rfl
  | spliceRests => exact hv
  | halt _ => exact hv
  | ramp c _ => exact hv
  | freed n _ => cases n <;> exact hv
  | load n x _ _ => cases n <;> exact hv
  | unload n _ _ => cases n <;> (split <;> exact hv)
  | _ => exact hv

/-- Settles O38: the lists change only by the moves of R104, R112, R113, R117 and R180, each of which takes the head of one
list to the tail of another, and by the resets. -/
theorem everyStepKeepsRecordsInOneList : Obligations.EveryStepKeepsRecordsInOneList := fun _ _ hs hstep =>
  (step_reaches hstep).keeps (P := ListsWhole) (fun _ _ => move_keeps_listsWhole) hs

/-! ### The speeds (R129, R130, R135) -/

/-- Neither V_set nor the command is above V_max. -/
def SpeedsWithin (v : View) : Prop := v.vSet ≤ v.vMax ∧ v.command ≤ v.vMax

theorem move_keeps_speedsWithin {v w : View} (h : Move v w) (hv : SpeedsWithin v) : SpeedsWithin w := by
  obtain ⟨hset, hcommand⟩ := hv
  cases h with
  | setSpeed x hx => exact ⟨hx, hcommand⟩
  | limits m _ => exact ⟨Nat.min_le_right _ _, Nat.min_le_right _ _⟩
  | ramp c hc => exact ⟨hset, hc.trans (max_le hcommand le_rfl)⟩
  | resetRun _ => exact ⟨hset, Nat.zero_le _⟩
  | powerOn => exact ⟨by decide, by decide⟩
  | freed n _ => cases n <;> exact ⟨hset, hcommand⟩
  | load n x _ _ => cases n <;> exact ⟨hset, hcommand⟩
  | unload n _ _ => cases n <;> (split <;> exact ⟨hset, hcommand⟩)
  | _ => exact ⟨hset, hcommand⟩

/-- Settles O39: only SET_SPEED, WRITE_SPEED_LIMITS, the ramp and the resets write a speed, each within V_max. -/
theorem everyStepKeepsSpeedsWithinMaximum : Obligations.EveryStepKeepsSpeedsWithinMaximum := fun _ _ hs hstep =>
  (step_reaches hstep).keeps (P := SpeedsWithin) (fun _ _ => move_keeps_speedsWithin) hs

/-! ### The fold work (R64, R68) -/

/-- At most 8 requests in flight and 32 entries queued or in flight. -/
def FoldWorkWithin (v : View) : Prop := v.inFlight ≤ 8 ∧ v.inFlight + v.queued ≤ 32

theorem move_keeps_foldWorkWithin {v w : View} (h : Move v w) (hv : FoldWorkWithin v) : FoldWorkWithin w := by
  obtain ⟨hflight, hboth⟩ := hv
  cases h with
  | lessWork f q hf hq => exact ⟨hf.trans hflight, hq.trans hboth⟩
  | issue hf hq =>
    refine ⟨hf, ?_⟩
    dsimp only
    omega
  | halt _ => exact ⟨Nat.zero_le _, Nat.zero_le _⟩
  | resetRun _ => exact ⟨Nat.zero_le _, Nat.zero_le _⟩
  | powerOn => exact ⟨Nat.zero_le _, Nat.zero_le _⟩
  | freed n _ => cases n <;> exact ⟨hflight, hboth⟩
  | load n x _ _ => cases n <;> exact ⟨hflight, hboth⟩
  | unload n _ _ => cases n <;> (split <;> exact ⟨hflight, hboth⟩)
  | _ => exact ⟨hflight, hboth⟩

/-- Settles O40: a request is issued within both limits alone, and every other change leaves no more work (R64 to R70). -/
theorem everyStepKeepsFoldWorkWithinLimits : Obligations.EveryStepKeepsFoldWorkWithinLimits := fun _ _ hs hstep =>
  (step_reaches hstep).keeps (P := FoldWorkWithin) (fun _ _ => move_keeps_foldWorkWithin) hs

/-! ### The totals (R44, R46, R47) -/

/-- Every stored pattern has the totals and the CLAMPED flag of its record. -/
def TotalsFollow (store : PatternStore) : Prop := ∀ p : Fin 48, ∀ x, store.places[p] = some x → TotalsHold store.kinds x

/-- Replacing a kind leaves every other kind. -/
theorem kindAt_set_other (kinds : Vector FoldKind 16) (k : Fin 16) (x : FoldKind) {n : Nat} (h : n ≠ k.val) :
    kindAt (kinds.set k x) n = kindAt kinds n := by
  simp [kindAt, List.getD, Vector.getElem?_set_ne _ h.symm]

/-- A pattern that does not use the replaced kind keeps its totals and its CLAMPED flag. -/
theorem TotalsHold.set_other {kinds : Vector FoldKind 16} {k : Fin 16} {y : Pattern} (x : FoldKind)
    (hy : TotalsHold kinds y) (hk : usesKind y k = false) : TotalsHold (kinds.set k x) y := by
  have hsame : ∀ g ∈ y.groups, kindAt (kinds.set k x) g.kind = kindAt kinds g.kind := fun g hg =>
    kindAt_set_other kinds k x (by simpa using List.any_eq_false.mp hk g hg)
  obtain ⟨htotals, hclamped⟩ := hy
  refine ⟨htotals.trans ?_, hclamped.trans ?_⟩
  · have hinput : y.groups.map (fun g => g.flatLead + foldLengthSum g (kindAt (kinds.set k x) g.kind) g.count)
        = y.groups.map (fun g => g.flatLead + foldLengthSum g (kindAt kinds g.kind) g.count) :=
      List.map_congr_left fun g hg => by rw [hsame g hg]
    have hratio : y.groups.map (fun g => foldRatioMax g (kindAt (kinds.set k x) g.kind) g.count)
        = y.groups.map (fun g => foldRatioMax g (kindAt kinds g.kind) g.count) :=
      List.map_congr_left fun g hg => by rw [hsame g hg]
    simp only [computeTotals, hinput, hratio]
  · rw [isClamped, isClamped, Bool.eq_iff_iff, List.any_eq_true, List.any_eq_true]
    exact exists_congr fun g => and_congr_right fun hg => by rw [hsame g hg]

theorem TotalsFollow.set_place {store : PatternStore} (h : TotalsFollow store) (p : Fin 48) {x : Option Pattern}
    (hx : ∀ y, x = some y → TotalsHold store.kinds y) : TotalsFollow { store with places := store.places.set p x } := by
  intro q y hy
  by_cases hq : p = q
  · subst hq
    exact hx y (by simpa using hy)
  · refine h q y ?_
    simpa [Vector.getElem_set_ne, Fin.val_ne_of_ne hq] using hy

theorem TotalsFollow.set_kind {store : PatternStore} (h : TotalsFollow store) (k : Fin 16) (x : FoldKind) :
    TotalsFollow { kinds := store.kinds.set k x
                   places := Vector.ofFn fun p => recomputed k (store.kinds.set k x) store.places[p] } := by
  intro p y hy
  have hy' : recomputed k (store.kinds.set k x) store.places[p] = some y := by simpa using hy
  unfold recomputed at hy'
  split at hy'
  · rename_i z hz
    split at hy'
    · obtain rfl := Option.some.inj hy'
      exact ⟨rfl, rfl⟩
    · rename_i hk
      obtain rfl := Option.some.inj hy'
      exact (h p z hz).set_other x (by simpa using hk)
  · exact absurd hy' (by simp)

theorem move_keeps_totalsFollow {v w : View} (h : Move v w) (hv : TotalsFollow v.store) : TotalsFollow w.store := by
  cases h with
  | storePattern p x hx => exact hv.set_place p fun y hy => Option.some.inj hy ▸ hx
  | deletePattern p => exact hv.set_place p fun y hy => absurd hy (by simp)
  | foldKind k x => exact hv.set_kind k x
  | powerOn =>
    intro p x hx
    simp [view, State.reset, PatternStore.reset] at hx
  | freed n _ => cases n <;> exact hv
  | load n x _ _ => cases n <;> exact hv
  | unload n _ _ => cases n <;> (split <;> exact hv)
  | _ => exact hv

/-- Settles O41: a pattern is stored with its totals, and a replaced kind computes anew the totals of the patterns that use
it. -/
theorem everyStepKeepsTotalsTrue : Obligations.EveryStepKeepsTotalsTrue := fun _ _ hs hstep =>
  (step_reaches hstep).keeps (P := fun v => TotalsFollow v.store) (fun _ _ => move_keeps_totalsFollow) hs

/-! ### Nothing open at rest (R98, R120, R125, R127) -/

/-- V_max is not 0, and no record is open on a line that stands. -/
def RestsClosed (v : View) : Prop := 0 < v.vMax ∧ (v.stands → v.openRecord = none)

/-- A running line does not stand. -/
theorem View.not_stands_of_running {v : View} (h : lineRunning v.line = true) : ¬v.stands := by
  rintro (hl | hl | ⟨hl, _⟩) <;> simp [hl, lineRunning] at h

theorem move_keeps_restsClosed {v w : View} (h : Move v w) (hv : RestsClosed v) : RestsClosed w := by
  obtain ⟨hmax, hclosed⟩ := hv
  cases h with
  | openHead i rest hrun _ => exact ⟨hmax, fun hst => absurd hst (View.not_stands_of_running hrun)⟩
  | close => exact ⟨hmax, fun _ => rfl⟩
  | limits m hm =>
    refine ⟨hm, fun hst => hclosed ?_⟩
    have hzero : min v.command m = 0 → v.command = 0 := fun h0 => by omega
    exact hst.imp_right (Or.imp_right (And.imp_right hzero))
  | ramp c _ =>
    refine ⟨hmax, fun hst => ?_⟩
    unfold View.atCommand
    dsimp only
    split
    · rfl
    · rename_i hnot
      obtain hl | hl | hl := hst
      · exact hclosed (.inl hl)
      · exact hclosed (.inr (.inl hl))
      · exact absurd hl hnot
  | halt _ =>
    refine ⟨hmax, fun hst => ?_⟩
    have hzero : v.command = 0 := by
      obtain hl | hl | hl := hst
      · exact absurd hl (by simp [View.halted])
      · exact absurd hl (by simp [View.halted])
      · exact hl.2
    simp [View.halted, hzero]
  | rest l hst _ => exact ⟨hmax, fun _ => hclosed hst⟩
  | start _ => exact ⟨hmax, fun hst => absurd hst (View.not_stands_of_running rfl)⟩
  | stopping _ => exact ⟨hmax, fun hst => absurd hst (View.not_stands_of_running rfl)⟩
  | stopped h => exact ⟨hmax, fun _ => h⟩
  | resetRun _ => exact ⟨hmax, fun _ => rfl⟩
  | powerOn => exact ⟨by decide, fun _ => rfl⟩
  | freed n _ => cases n <;> exact ⟨hmax, hclosed⟩
  | load n x _ _ => cases n <;> exact ⟨hmax, hclosed⟩
  | unload n _ _ => cases n <;> (split <;> exact ⟨hmax, hclosed⟩)
  | _ => exact ⟨hmax, hclosed⟩

/-- Settles O42: a record opens in a running line alone, and each way to rest closes it or finds none open. -/
theorem everyStepLeavesNothingOpenAtRest : Obligations.EveryStepLeavesNothingOpenAtRest := fun _ _ hs hstep =>
  (step_reaches hstep).keeps (P := RestsClosed) (fun _ _ => move_keeps_restsClosed) hs

/-! ### The spindles (R160, R162, R166, R170) -/

/-- At most one spindle is ACTIVE, one in RUN and STOPPING, and from READY to PASTE one is ACTIVE and one LOADED. -/
def OneFeeds (v : View) : Prop :=
  ¬(v.spindleA = .active ∧ v.spindleB = .active)
    ∧ (v.line = .run ∨ v.line = .stopping → v.spindleA = .active ∨ v.spindleB = .active)
    ∧ (v.splice = .ready ∨ v.splice = .armed ∨ v.splice = .matching ∨ v.splice = .paste → v.paired)

/-- The resting state is READY exactly where the spindles are paired (R166). -/
theorem OneFeeds.rested {v : View} (hone : ¬(v.spindleA = .active ∧ v.spindleB = .active))
    (hfed : v.line = .run ∨ v.line = .stopping → v.spindleA = .active ∨ v.spindleB = .active) : OneFeeds v.rested := by
  refine ⟨hone, hfed, fun hready => ?_⟩
  unfold View.rested at hready ⊢
  dsimp only at hready
  split at hready
  · rename_i hpair
    exact hpair.imp_right And.symm
  · simp at hready

/-- A line that stands neither runs nor stops. -/
theorem View.not_running_of_stands {v : View} (h : v.stands) : ¬(v.line = .run ∨ v.line = .stopping) := by
  rintro (hl | hl) <;> exact View.not_stands_of_running (by simp [hl, lineRunning]) h

/-- With an EXPIRED or an EMPTY spindle the spindles are not paired. -/
theorem not_paired_of {v : View} {n : SpindleName} (h : v.spindle n = .expired ∨ v.spindle n = .empty) : ¬v.paired := by
  rintro (⟨ha, hb⟩ | ⟨ha, hb⟩) <;> cases n <;> simp [View.spindle, ha, hb] at h

/-- A spindle emptied, an ACTIVE one of a line that does not run. -/
theorem emptied_feeds {v : View} {n : SpindleName}
    (hfed : v.line = .run ∨ v.line = .stopping → v.spindleA = .active ∨ v.spindleB = .active)
    (hn : v.spindle n = .active → ¬(v.line = .run ∨ v.line = .stopping)) :
    ¬((v.setSpindle n .empty).spindleA = .active ∧ (v.setSpindle n .empty).spindleB = .active)
      ∧ ((v.setSpindle n .empty).line = .run ∨ (v.setSpindle n .empty).line = .stopping →
          (v.setSpindle n .empty).spindleA = .active ∨ (v.setSpindle n .empty).spindleB = .active) := by
  cases n with
  | a => exact ⟨fun h => absurd h.1 (by simp [View.setSpindle]), fun hr => .inr ((hfed hr).resolve_left fun ha => hn ha hr)⟩
  | b => exact ⟨fun h => absurd h.2 (by simp [View.setSpindle]), fun hr => .inl ((hfed hr).resolve_right fun hb => hn hb hr)⟩

/-- A roll put on an EMPTY spindle, ACTIVE only with none ACTIVE. -/
theorem loaded_feeds {v : View} {n : SpindleName} {x : SpindleState}
    (hfed : v.line = .run ∨ v.line = .stopping → v.spindleA = .active ∨ v.spindleB = .active)
    (he : v.spindle n = .empty)
    (hx : x = .loaded ∨ (x = .active ∧ v.spindleA ≠ .active ∧ v.spindleB ≠ .active)) :
    ¬((v.setSpindle n x).spindleA = .active ∧ (v.setSpindle n x).spindleB = .active)
      ∧ ((v.setSpindle n x).line = .run ∨ (v.setSpindle n x).line = .stopping →
          (v.setSpindle n x).spindleA = .active ∨ (v.setSpindle n x).spindleB = .active) := by
  obtain rfl | ⟨rfl, ha, hb⟩ := hx <;> cases n <;> simp_all [View.setSpindle, View.spindle]

theorem move_keeps_oneFeeds {v w : View} (h : Move v w) (hv : OneFeeds v) : OneFeeds w := by
  obtain ⟨hone, hfed, hpaired⟩ := hv
  cases h with
  | halt _ =>
    refine ⟨hone, fun hl => absurd hl (by simp [View.halted]), fun hx => hpaired ?_⟩
    unfold View.halted at hx
    dsimp only at hx
    split at hx
    · rename_i hmatching
      exact .inr (.inr (.inl hmatching))
    · exact hx
  | rest l _ hl =>
    refine ⟨hone, fun hr => ?_, hpaired⟩
    obtain rfl | rfl := hl <;> simp at hr
  | start hact => exact ⟨hone, fun _ => hact, hpaired⟩
  | stopping hl => exact ⟨hone, fun _ => hfed (.inl hl), hpaired⟩
  | stopped _ => exact ⟨hone, fun hl => absurd hl (by simp), hpaired⟩
  | spliceRests => exact OneFeeds.rested hone hfed
  | spliceGoesOn x hx => 
    refine ⟨hone, hfed, fun _ => hpaired ?_⟩
    exact hx.imp_right (Or.imp_right .inl)
  | spliceFails => exact ⟨hone, hfed, fun hx => absurd hx (by simp)⟩
  | confirm hpaste =>
    obtain ⟨ha, hb⟩ | ⟨ha, hb⟩ := hpaired (.inr (.inr (.inr hpaste))) <;>
      simp [OneFeeds, swappedState, ha, hb]
  | freed n hn =>
    obtain ⟨hone', hfed'⟩ := emptied_feeds hfed (fun ha => absurd (hn.symm.trans ha) (by decide))
    refine ⟨hone', hfed', fun hx => absurd (hpaired (by cases n <;> exact hx)) (not_paired_of (.inl hn))⟩
  | unload n hs ha =>
    obtain ⟨hone', hfed'⟩ := emptied_feeds hfed (fun hact => View.not_running_of_stands (ha hact))
    split
    · exact OneFeeds.rested hone' hfed'
    · rename_i hidle
      refine ⟨hone', hfed', fun hx => absurd ?_ hidle⟩
      have hx' : v.splice = .ready ∨ v.splice = .armed ∨ v.splice = .matching ∨ v.splice = .paste := by
        cases n <;> exact hx
      obtain h | h | h | h := hx'
      · exact .inr (.inl h)
      · exact .inr (.inr h)
      · exact absurd h hs.1
      · exact absurd h hs.2
  | load n x he hx =>
    obtain ⟨hone', hfed'⟩ := loaded_feeds hfed he hx
    exact ⟨hone', hfed', fun hs => absurd (hpaired (by cases n <;> exact hs)) (not_paired_of (.inr he))⟩
  | powerOn => exact ⟨by decide, by decide, fun hx => absurd hx (by decide)⟩
  | _ => exact ⟨hone, hfed, hpaired⟩

/-- Settles O43: rolls are taken off and put on, and swapped by a confirmed paste, only in the states that allow it. -/
theorem everyStepKeepsOneSpindleFeeding : Obligations.EveryStepKeepsOneSpindleFeeding := fun _ _ hs hstep =>
  (step_reaches hstep).keeps (P := OneFeeds) (fun _ _ => move_keeps_oneFeeds) hs

end Sys2Proof.Proofs

/-! The requests that read (O3 to O7, O52, O53): the bytes of a reply in the words of the statements, then each payload item
by item. -/

namespace Sys2Proof.Proofs

open Machine Statements

/-! ### The bytes of a reply in the words of the statements -/

theorem leBytes_one_byte (n : Nat) : leBytes 1 n = [byte n] := rfl

theorem leBytes_two_two (n : Nat) : leBytes 2 n = two n := rfl

theorem leBytes_four_four (n : Nat) : leBytes 4 n = four n := leBytes_four n

theorem flagByte_eq (b : Bool) : flagByte b = flag b := by cases b <;> rfl

theorem activeByte_eq (b : Bool) : activeByte b = active b := by cases b <;> rfl

theorem firstOfTwo_byte (b : Bool) : byte (firstOfTwoCode b) = if b then 0 else 1 := by cases b <;> rfl

theorem optBytes_one (x : Option Nat) : optBytes 1 x = optional (fun v => [byte v]) x := by cases x <;> rfl

theorem optBytes_two (x : Option Nat) : optBytes 2 x = optional two x := by cases x <;> rfl

theorem optBytes_four (x : Option Nat) : optBytes 4 x = optional four x := by
  cases x <;> simp only [optBytes, leBytes_four_four] <;> rfl

/-- The five bytes of a notice set. -/
theorem noticeSetBytes_eq (x : NoticeSet) : noticeSetBytes x = five x := by
  have hbyte : ∀ k, BitVec.ofNat 8 (x.toNat / 2 ^ k) = x.extractLsb' k 8 := fun k => by
    apply BitVec.eq_of_toNat_eq
    simp [Nat.shiftRight_eq_div_pow]
  have h := fun k => hbyte k
  simp only [noticeSetBytes, leBytes, five, Nat.div_div_eq_div_mul]
  rw [← hbyte 0, ← hbyte 8, ← hbyte 16, ← hbyte 24, ← hbyte 32]
  simp

/-- A served request answers OK when the service handler does, its payload in other words. -/
theorem exec_eq_ok_of {i : Instr} {s t : State} {p q : List Byte} (hi : (Decode.requestBytes i).isSome = true)
    (hs : Served s) (h : serve i s = (t, okay p)) (hp : p = q) : exec i s = ok t q :=
  exec_eq_ok hi hs (h.trans (by rw [hp]))

/-! ### READ_QUANTITY (R29) -/

theorem quantityPayload_eq (i : Fin 16) (q : Quantity) : quantityPayload i q =
    [byte i.val, byte ((if q.lost then 1 else 0) + (if q.fresh then 2 else 0) + (if q.lastRaw.isSome then 4 else 0))]
      ++ two q.age ++ four q.value.toNat ++ four (q.lastRaw.getD 0) ++ two (if i.val < 2 then q.remainder else 0)
      ++ [0, 0] := by
  have hflags : bit q.lost + 2 * bit q.fresh + 4 * bit q.lastRaw.isSome
      = (if q.lost then 1 else 0) + (if q.fresh then 2 else 0) + (if q.lastRaw.isSome then 4 else 0) := by
    simp only [bit, mul_ite, mul_one, mul_zero]
  simp only [quantityPayload, leBytes_one_byte, leBytes_two_two, leBytes_four_four, hflags, isIncremental,
    decide_eq_true_eq]
  rfl

theorem readQuantity_out_of_range {n m : Nat} (s : State) (h : 16 ≤ n ∨ 2 ≤ m) : readQuantity n m s = refuse s .range := by
  unfold readQuantity
  obtain h | h := h
  · rw [index?_none h]
  · rw [firstOfTwo_none h]
    cases index? 16 n <;> rfl

theorem readQuantity_reports (q : Fin 16) {m : Nat} (s : State) (hm : m < 2) : readQuantity q.val m s =
    (if m = 0 then s.withConverter { s.converter with
        quantities := s.converter.quantities.set q { s.converter.quantities[q] with fresh := false } } else s,
     okay (quantityPayload q s.converter.quantities[q])) := by
  unfold readQuantity
  rw [index?_val, firstOfTwo_some hm]
  obtain rfl | rfl : m = 0 ∨ m = 1 := by omega
  · rfl
  · rfl

/-- Settles O3: READ_QUANTITY has the two branches of its operands, and its reply form is `quantityPayload`. -/
theorem readQuantityReportsAndTakes : Obligations.ReadQuantityReportsAndTakes := by
  intro n m s hs
  refine ⟨fun h => exec_eq_refused rfl hs (readQuantity_out_of_range s h), ?_⟩
  rintro q rfl hm x rfl
  exact exec_eq_ok_of rfl hs (readQuantity_reports q s hm) (quantityPayload_eq q _)

/-! ### READ_LINES (R39) -/

/-- Settles O4: the payload of READ_LINES, group by group and line by line. -/
theorem readLinesReportsEveryLine : Obligations.ReadLinesReportsEveryLine := by
  intro s hs
  refine exec_eq_ok_of rfl hs rfl ?_
  simp only [linesPayload, leBytes_one_byte, firstOfTwo_byte, optBytes_one, flagByte_eq, activeByte_eq, lineLatched]

/-! ### READ_PATTERN (R53) -/

theorem groupBytes_eq (g : FoldGroup) : groupBytes g = groupEntry g := by
  simp only [groupBytes, groupEntry, leBytes_one_byte, leBytes_two_two, leBytes_four_four]
  simp

theorem totalsBytes_eq (x : Pattern) : totalsBytes x = totalsEntry x.totals x.clamped := by
  simp only [totalsBytes, totalsEntry, leBytes_two_two, leBytes_four_four, flagByte_eq]

theorem patternPayload_eq (s : State) (p : Fin 48) (x : Pattern) : patternPayload s p x =
    [byte (p.val + 1)] ++ four x.leadIn ++ four x.leadOut ++ two x.minDwell ++ two (x.maxDwell.getD 0) ++ two x.tolerance
      ++ [byte x.lotClass, byte x.groups.length] ++ x.groups.flatMap groupEntry
      ++ totalsEntry x.totals x.clamped ++ flag (patternInUse s p) := by
  have hgroups : groupBytes = groupEntry := funext groupBytes_eq
  simp only [patternPayload, patternNumber, leBytes_one_byte, leBytes_two_two, leBytes_four_four, hgroups, totalsBytes_eq,
    flagByte_eq]
  simp

/-- Settles O5: the three branches of READ_PATTERN. -/
theorem readPatternReportsTheRecord : Obligations.ReadPatternReportsTheRecord := by
  intro n s hs
  refine ⟨fun h => exec_eq_refused rfl hs ?_, ?_, ?_⟩
  · rw [serve, readPattern, ordinal?_none h]
  · rintro p rfl habsent
    have hp : patternAt s p = none := habsent
    exact exec_eq_refused rfl hs (by rw [serve, readPattern, ordinal?_succ]; simp only [hp])
  · rintro p x rfl hpresent
    have hp : patternAt s p = some x := hpresent
    exact exec_eq_ok_of rfl hs (by rw [serve, readPattern, ordinal?_succ]; simp only [hp]) (patternPayload_eq s p x)

/-! ### READ_LIST (R115) -/

theorem listPayload_eq (l : List (Fin 64)) : listPayload l =
    optional (fun v => [byte v]) (l.head?.map Fin.val) ++ optional (fun v => [byte v]) (l.getLast?.map Fin.val)
      ++ [byte l.length, if l = [] then 0 else 1] ++ l.map fun i => byte i.val := by
  simp only [listPayload, optBytes_one, leBytes_one_byte, firstOfTwo_byte]
  simp [← List.map_eq_flatMap]

/-- Settles O6: the five list numbers and the numbers above. -/
theorem readListReportsTheList : Obligations.ReadListReportsTheList := by
  intro n s hs
  refine ⟨fun h => exec_eq_refused rfl hs ?_, ?_⟩
  · obtain ⟨m, rfl⟩ : ∃ m, n = m + 5 := ⟨n - 5, by omega⟩
    rfl
  · rintro hn l rfl
    have hlist : serve (.readList n) s = (s, okay (listPayload (listNumbered s.track n))) := by
      interval_cases n <;> rfl
    exact exec_eq_ok_of rfl hs hlist (listPayload_eq _)

/-! ### READ_NOTICES (R194) -/

theorem isFixed_iff (i : Fin 40) : isFixed i = decide (i = 0 ∨ i = 3 ∨ i = 24 ∨ i = 34) := by
  simp [isFixed, Notice.fixedIndices]

/-- Settles O7: the payload of READ_NOTICES item by item. -/
theorem readNoticesReportsTheBlock : Obligations.ReadNoticesReportsTheBlock := by
  intro s hs
  refine exec_eq_ok_of rfl hs rfl ?_
  simp only [noticesPayload, routeBytes, leBytes_one_byte, firstOfTwo_byte, optBytes_one, flagByte_eq, noticeSetBytes_eq,
    isFixed_iff, List.cons_append, List.nil_append]

/-! ### READ_ORDERS, READ_ZONES and READ_ROLLS (R99, R158, R176) -/

theorem runBytes_eq (r : Run) : runBytes r = [byte (r.pattern.val + 1)] ++ two r.count ++ two r.lotTag := rfl

theorem currentBytes_eq (c : Option CurrentRun) : currentBytes c = (match c with
    | none => [0, 0, 0, 0, 0, 0, 0, 0]
    | some c => [1, byte (c.run.pattern.val + 1)] ++ two c.run.lotTag ++ two c.run.count ++ two c.remaining) := by
  cases c <;> rfl

theorem readOrders_reports : ReadOrdersReportsTheSequencer := by
  intro s hs
  refine exec_eq_ok_of rfl hs rfl ?_
  have hruns : runBytes = fun r => [byte (r.pattern.val + 1)] ++ two r.count ++ two r.lotTag := rfl
  simp only [ordersPayload, leBytes_one_byte, leBytes_four_four, optBytes_one, flagByte_eq, hruns]
  cases s.seq.current <;> rfl

theorem readZones_reports : ReadZonesReportsTheTunnel := by
  intro s hs
  refine exec_eq_ok_of rfl hs rfl ?_
  have hzones : zoneBytes s = fun z =>
      optional (fun v => [byte v]) (s.tunnel.zones[z].fit.map fun f => roleCode f.role)
        ++ optional four (s.tunnel.zones[z].fit.map ZoneFit.spanStart)
        ++ optional four (s.tunnel.zones[z].fit.map ZoneFit.spanEnd)
        ++ [byte (zoneStateCode s.tunnel.zones[z].state), byte s.tunnel.zones[z].progress]
        ++ four s.tunnel.zones[z].integrator ++ two s.tunnel.zones[z].opening
        ++ two (quantity s (zoneQuantity z)).value.toNat ++ flag (quantity s (zoneQuantity z)).lost := by
    funext z
    simp only [zoneBytes, leBytes_one_byte, leBytes_two_two, leBytes_four_four, optBytes_one, optBytes_four, flagByte_eq]
    simp
  simp only [zonesPayload, hzones, leBytes_two_two, optBytes_four, flagByte_eq]

theorem spindleBytes_eq (x : Spindle) : spindleBytes x = spindleEntry x := by
  simp only [spindleBytes, spindleEntry, leBytes_one_byte, optBytes_two, optBytes_four, flagByte_eq]

theorem readRolls_reports : ReadRollsReportsTheSpindles := by
  intro s hs
  refine exec_eq_ok_of rfl hs rfl ?_
  simp only [rollsPayload, spindleBytes_eq, leBytes_one_byte, leBytes_two_two, leBytes_four_four, optBytes_four]
  simp

/-- Settles O52: the three payloads item by item. -/
theorem ordersZonesAndRollsAreReported : Obligations.OrdersZonesAndRollsAreReported :=
  ⟨readOrders_reports, readZones_reports, readRolls_reports⟩

end Sys2Proof.Proofs

/-! READ_RECORD and COLLECT (O53): the record format of R204, and the list that holds a record (R105). -/

namespace Sys2Proof.Proofs

open Machine Statements Safety

/-! ### The record format (R204) -/

/-- The edges of a record, in the lists that have them. -/
def edgesIn (l : ListName) (e : Position × Position) : Option (Position × Position) :=
  match l with
  | .runout | .tunnel | .exit => some e
  | .free | .done => none

theorem mul_bit (k : Nat) (b : Bool) : k * bit b = if b then k else 0 := by
  cases b
  · exact Nat.mul_zero k
  · exact Nat.mul_one k

theorem bit_eq (b : Bool) : bit b = if b then 1 else 0 := rfl

theorem marksCode_eq (m : Marks) : marksCode m =
    (if m.misfold then 1 else 0) + (if m.underset then 2 else 0) + (if m.shortDwell then 4 else 0)
      + (if m.overdwell then 8 else 0) + (if m.spliced then 16 else 0) + (if m.aborted then 32 else 0) := by
  rw [marksCode, mul_bit, mul_bit, mul_bit, mul_bit, mul_bit, bit_eq]

theorem flagBit_eq (b : Bool) : byte (bit b) = if b then 1 else 0 := by cases b <;> rfl

/-- The flags of a record, in the words of the statements. -/
theorem flagsByte_eq (r : TrackRecord) (b : Bool) :
    bit r.isOpen + 2 * bit r.cutEmitted + 4 * bit r.inLen.isSome + 8 * bit r.transits.leadEntry.isSome
      + 16 * bit r.transits.leadExit.isSome + 32 * bit r.transits.trailEntry.isSome
      + 64 * bit r.transits.trailExit.isSome + 128 * bit b
      = (if r.isOpen then 1 else 0) + (if r.cutEmitted then 2 else 0) + (if r.inLen.isSome then 4 else 0)
        + (if r.transits.leadEntry.isSome then 8 else 0) + (if r.transits.leadExit.isSome then 16 else 0)
        + (if r.transits.trailEntry.isSome then 32 else 0) + (if r.transits.trailExit.isSome then 64 else 0)
        + (if b then 128 else 0) := by
  rw [mul_bit, mul_bit, mul_bit, mul_bit, mul_bit, mul_bit, mul_bit, bit_eq]

theorem four_zero : four 0 = [0, 0, 0, 0] := rfl

theorem recordPayload_eq (i : Fin 64) (r : TrackRecord) (l : ListName) (p : Position) (lost : Bool) :
    recordPayload i r l p lost = recordEntry i r (listCode l) (edgesIn l (leadEdge p r, trailEdge p r)) lost := by
  have htag : (r.lotTag <|> r.newLotTag) = r.lotTag.orElse fun _ => r.newLotTag := rfl
  unfold recordPayload recordEntry
  simp only [leBytes_one_byte, leBytes_two_two, leBytes_four_four, stampNat, htag]
  rw [flagsByte_eq, marksCode_eq, flagBit_eq lost]
  cases r.pattern with
  | none => cases l <;> simp [edgesIn, four_zero, byte]
  | some k => cases l <;> simp [edgesIn, four_zero, patternNumber]

/-! ### The list that holds a record (R105) -/

/-- With each record in one list, a record of a list is in none of the others. -/
theorem listHolding_of_mem {s : State} (h : ListsHoldEveryRecordOnce s) {i : Fin 64} {l : ListName}
    (hi : i ∈ listRecords s.track l) : listHolding s.track i = l := by
  obtain ⟨hnodup, _⟩ := h
  simp only [allListed, List.nodup_append, List.mem_append] at hnodup
  obtain ⟨⟨⟨⟨_, _, hrunout⟩, _, htunnel⟩, _, hexit⟩, _, hdone⟩ := hnodup
  unfold listHolding
  cases l with
  | free => rw [if_neg fun h => hrunout i hi i h rfl, if_neg fun h => htunnel i (.inl hi) i h rfl,
      if_neg fun h => hexit i (.inl (.inl hi)) i h rfl, if_neg fun h => hdone i (.inl (.inl (.inl hi))) i h rfl]
  | runout => exact if_pos hi
  | tunnel =>
    rw [if_neg fun h => htunnel i (.inr h) i hi rfl]
    exact if_pos hi
  | exit =>
    rw [if_neg fun h => hexit i (.inl (.inr h)) i hi rfl, if_neg fun h => hexit i (.inr h) i hi rfl]
    exact if_pos hi
  | done =>
    rw [if_neg fun h => hdone i (.inl (.inl (.inr h))) i hi rfl, if_neg fun h => hdone i (.inl (.inr h)) i hi rfl,
      if_neg fun h => hdone i (.inr h) i hi rfl]
    exact if_pos hi

theorem readRecord_in {s : State} (hs : Served s) (h : ListsHoldEveryRecordOnce s) {i : Fin 64} {l : ListName}
    (hi : i ∈ listRecords s.track l) : exec (.readRecord i.val) s = ok s
      (recordEntry i s.track.records[i] (listCode l)
        (edgesIn l (leadEdge (belt s) s.track.records[i], trailEdge (belt s) s.track.records[i])) (beltLost s)) := by
  refine exec_eq_ok_of rfl hs ?_ (recordPayload_eq i _ l (belt s) (beltLost s))
  rw [serve, readRecord, index?_val, ← listHolding_of_mem h hi]
  rfl

theorem readRecord_reports : ReadRecordReportsTheRecord := by
  intro n s hs
  refine ⟨fun h => exec_eq_refused rfl hs (by rw [serve, readRecord, index?_none h]), ?_⟩
  rintro hlists i rfl r rfl edges rfl
  exact ⟨fun h => readRecord_in hs hlists (l := .free) h, fun h => readRecord_in hs hlists (l := .runout) h,
    fun h => readRecord_in hs hlists (l := .tunnel) h, fun h => readRecord_in hs hlists (l := .exit) h,
    fun h => readRecord_in hs hlists (l := .done) h⟩

/-! ### COLLECT (R117) -/

theorem expectedOf_operand {e : Option Nat} (h : ∀ n, e = some n → n < 64) :
    ∃ x : Option (Fin 64), expectedOf (operand e) = some x ∧ x.map Fin.val = e := by
  cases e with
  | none => exact ⟨none, rfl, rfl⟩
  | some n => exact ⟨some ⟨n, h n rfl⟩, by simp [operand, expectedOf, index?_lt (h n rfl)], rfl⟩

theorem collect_reports : CollectReleasesTheHeadOfDone := by
  rintro e s hs a rfl
  refine ⟨?_, ?_, ?_⟩
  · rintro n rfl hn
    exact exec_eq_refused rfl hs (by simp [serve, collect, operand, expectedOf, index?_none hn])
  · intro hlt hdone
    obtain ⟨x, hx, _⟩ := expectedOf_operand hlt
    exact exec_eq_refused rfl hs (by rw [serve, collect, hx]; simp only [hdone])
  · intro i rest hdone
    refine ⟨?_, fun he => ?_⟩
    · rintro n rfl hn hne
      refine exec_eq_refused rfl hs ?_
      have hother : ¬(⟨n, hn⟩ : Fin 64) = i := fun h => hne (congrArg Fin.val h)
      simp [serve, collect, operand, expectedOf, index?_lt hn, hdone, hother]
    · have hlt : ∀ n, e = some n → n < 64 := by
        rintro n rfl
        obtain h | h := he
        · cases h
        · rw [Option.some.inj h]
          exact i.isLt
      obtain ⟨x, hx, hval⟩ := expectedOf_operand hlt
      have htakes : ¬(x.isSome = true ∧ x ≠ some i) := by
        rintro ⟨hsome, hne⟩
        obtain ⟨j, rfl⟩ := Option.isSome_iff_exists.mp hsome
        subst hval
        obtain h | h := he
        · cases h
        · exact hne (congrArg some (Fin.ext (Option.some.inj h)))
      refine exec_eq_ok_of rfl hs ?_ (recordPayload_eq i _ .free (belt s) (beltLost s))
      rw [serve, collect, hx]
      simp only [hdone, if_neg htakes]
      rfl

/-- Settles O53: the list that holds a record follows from each record being in one list; COLLECT has a branch for each
refusal and one for the move. -/
theorem recordsAreReportedAndCollected : Obligations.RecordsAreReportedAndCollected :=
  ⟨readRecord_reports, collect_reports⟩

end Sys2Proof.Proofs

/-! The step (O1), requests outside LISTEN and ACTIVE (O2), and the requests of the ring port (O48, O49). -/

namespace Sys2Proof.Proofs

open Machine Statements Safety

/-! ### The step, and requests that pass -/

/-- Settles O1: the step's branch for a queue that is not empty. -/
theorem stepRunsFrontCommand : Obligations.StepRunsFrontCommand := by
  intro c rest s h
  rw [step, h]

/-- Settles O2: outside LISTEN and ACTIVE every request is taken by the branch of `take` that passes it (R16). -/
theorem requestsPassUntouchedOutsideListenAndActive : Obligations.RequestsPassUntouchedOutsideListenAndActive := by
  intro i s hi hs
  have hserves : portServes s.port.state = false := by
    rw [← Bool.not_eq_true, portServes_iff]
    exact hs
  rw [exec_request i hi, take_passes hserves]

/-! ### GO_ACTIVE, GO_LISTEN and RESYNC (R10) -/

theorem portRequestRefused_iff (g : Governor) : portRequestRefused g = true ↔ LineMoves g := by
  simp [portRequestRefused, LineMoves, lineRunning, or_assoc]

theorem portRequests_move : PortRequestsMoveThePort := by
  intro s
  have hrefused : LineMoves s.gov → portRequestRefused s.gov = true := (portRequestRefused_iff _).mpr
  have hallowed : ¬LineMoves s.gov → ¬portRequestRefused s.gov = true := mt (portRequestRefused_iff _).mp
  refine ⟨fun hp => ?_, fun hp hl => ?_, fun hp hl => ?_, fun hs hl => ⟨?_, ?_⟩, fun hl hp => ?_, fun hl hp => ?_,
    fun hl hs => ?_⟩
  · exact exec_eq_ok rfl (.inr hp) (by simp [serve, goActive, hp])
  · exact exec_eq_refused rfl (.inl hp) (by simp [serve, goActive, hp, hl])
  · exact exec_eq_ok rfl (.inl hp) (by simp [serve, goActive, hp, hl])
  · exact exec_eq_refused rfl hs (by rw [serve, goListen, if_pos (hrefused hl)])
  · exact exec_eq_refused rfl hs (by rw [serve, resync, if_pos (hrefused hl)])
  · exact exec_eq_ok rfl (.inl hp) (by simp [serve, goListen, hallowed hl, hp])
  · refine exec_eq_ok rfl (.inr hp) ?_
    rw [serve, goListen, if_neg (hallowed hl), if_pos hp]
    rfl
  · refine exec_eq_ok rfl hs ?_
    rw [serve, resync, if_neg (hallowed hl)]
    rfl

/-! ### IDENTIFY (R17) -/

theorem identifyPayload_eq {s : State} : identifyPayload s =
    two 624 ++ [3, byte s.port.address.toNat, if s.port.state = .active then 1 else 0] ++ two s.port.period
      ++ (match s.port.slotLength with
          | some n => 1 :: two n
          | none => [0, 0, 0])
      ++ [byte (errorCode s.port.lastError)] ++ four s.port.badFrames ++ four s.port.missedCycles
      ++ [48, 16, 64, 16, 32, 8, 16, 32, 6, 40, 4, 4] := by
  have hstate : byte (if s.port.state = .active then 1 else 0) = if s.port.state = .active then 1 else 0 := by
    split <;> rfl
  unfold identifyPayload
  simp only [leBytes_one_byte, leBytes_four_four]
  rw [hstate]
  cases s.port.slotLength with
  | none =>
    simp only [optBytes, leBytes_one_byte, leBytes_two_two, List.append_assoc, List.cons_append, List.nil_append]
    rfl
  | some n =>
    simp only [optBytes, leBytes_one_byte, leBytes_two_two, List.append_assoc, List.cons_append, List.nil_append]
    rfl

theorem identify_replies : IdentifyRepliesAndClears := by
  intro clear s hs
  refine ⟨fun h => exec_eq_refused rfl hs (by rw [serve, identify, zeroOne_none h]), fun h => ?_⟩
  refine exec_eq_ok_of rfl hs ?_ identifyPayload_eq
  rw [serve, identify, zeroOne_some h]
  obtain rfl | rfl : clear = 0 ∨ clear = 1 := by omega
  · rfl
  · rfl

/-- Settles O48: the port requests by port state and line state, and the payload of IDENTIFY. -/
theorem portRequests : Obligations.PortRequests := ⟨portRequests_move, identify_replies⟩

/-! ### WRITE_WINDOW, WRITE_COMMAND_MAP and SET_CYCLE (R11 to R13) -/

theorem windowOf_present {b l : Nat} (hb : b ≤ l) (hl : l ≤ 1023) :
    windowOf (.present b l) = some (some { base := b, limit := l }) := if_pos ⟨hb, hl⟩

theorem windowOf_none {b l : Nat} (h : 1024 ≤ l ∨ l < b) : windowOf (.present b l) = none := by
  refine if_neg ?_
  omega

theorem writeWindow_out_of_range {d n : Nat} {b : WindowArg} {s : State} (hline : s.gov.line = .configure)
    (h : firstOfTwo d = none ∨ index? 4 n = none ∨ windowOf b = none) : writeWindow d n b s = refuse s .range := by
  rw [writeWindow, if_neg (not_not.mpr hline)]
  split
  · simp_all
  · simp_all
  · rfl

theorem writeWindow_writes {d : Nat} (n : Fin 4) {b : WindowArg} {w : Option Window} {s : State}
    (hline : s.gov.line = .configure) (hd : d < 2) (hw : windowOf b = some w) : writeWindow d n.val b s =
      (s.withPort (if d = 0 then { s.port with readWindows := s.port.readWindows.set n w }
        else { s.port with writeWindows := s.port.writeWindows.set n w }), okay []) := by
  rw [writeWindow, if_neg (not_not.mpr hline), index?_val, firstOfTwo_some hd, hw]
  obtain rfl | rfl : d = 0 ∨ d = 1 := by omega
  · rfl
  · rfl

theorem writeCommandMap_out_of_range {f : Nat} {o : OptArg} {s : State} (hline : s.gov.line = .configure)
    (h : ∀ i, index? 9 f = some i → fieldOffsetOf i o = none) : writeCommandMap f o s = refuse s .range := by
  rw [writeCommandMap, if_neg (not_not.mpr hline)]
  split
  · rfl
  · rename_i i hi
    rw [h i hi]

theorem writeCommandMap_writes {f : Fin 9} {o : OptArg} {v : Option Nat} {s : State} (hline : s.gov.line = .configure)
    (h : fieldOffsetOf f o = some v) :
    writeCommandMap f.val o s = (s.withPort { s.port with map := s.port.map.set f v }, okay []) := by
  rw [writeCommandMap, if_neg (not_not.mpr hline), index?_val]
  simp only [h]

theorem windowAndMap_writes : WindowAndMapWrites := by
  intro s hs
  refine ⟨fun d n b f o hl => ⟨?_, ?_⟩, fun d n b l hl hd hb hlim => ?_, fun d n hl hd => ?_, fun d n b l hl h => ?_,
    fun d n hl h => ?_, fun f o hl h => ?_, fun f hl hf => ?_, fun f o hl hf => ?_, fun f o hl h => ?_, fun hl => ?_⟩
  · exact exec_eq_refused rfl hs (by rw [serve, writeWindow, if_pos hl])
  · exact exec_eq_refused rfl hs (by rw [serve, writeCommandMap, if_pos hl])
  · exact exec_eq_ok rfl hs (writeWindow_writes n hl hd (windowOf_present hb hlim))
  · exact exec_eq_ok rfl hs (writeWindow_writes n hl hd rfl)
  · refine exec_eq_refused rfl hs (writeWindow_out_of_range hl ?_)
    obtain h | h | h := h
    · exact .inl (firstOfTwo_none h)
    · exact .inr (.inl (index?_none h))
    · exact .inr (.inr (windowOf_none h))
  · exact exec_eq_refused rfl hs (writeWindow_out_of_range hl (h.imp firstOfTwo_none fun h => .inl (index?_none h)))
  · exact exec_eq_ok rfl hs (writeCommandMap_writes hl (if_pos h))
  · exact exec_eq_ok rfl hs (writeCommandMap_writes hl (if_neg hf))
  · exact exec_eq_refused rfl hs (writeCommandMap_out_of_range hl (by simp [index?_none hf]))
  · refine exec_eq_refused rfl hs (writeCommandMap_out_of_range hl ?_)
    intro i hi
    rw [index?_val] at hi
    obtain rfl := Option.some.inj hi
    exact if_neg (by omega)
  · have hrefused : writeCommandMap 8 .absent s = refuse s .range :=
      writeCommandMap_out_of_range hl fun i hi => by
        obtain rfl : (8 : Fin 9) = i := Option.some.inj hi
        rfl
    exact exec_eq_refused rfl hs hrefused

theorem setCycle_takes : SetCycleTakesBothValues := by
  intro period n s hs
  split
  · rename_i hl
    exact exec_eq_refused rfl hs (by rw [serve, setCycle, if_pos hl])
  · rename_i hl
    have hranges : (within 250 4000 period && within 64 1024 n) = true ↔
        250 ≤ period ∧ period ≤ 4000 ∧ 64 ≤ n ∧ n ≤ 1024 := by
      rw [Bool.and_eq_true, within_iff, within_iff, and_assoc]
    split
    · rename_i h
      exact exec_eq_ok rfl hs (by rw [serve, setCycle, if_neg hl, if_pos (hranges.mpr h)])
    · rename_i h
      exact exec_eq_refused rfl hs (by rw [serve, setCycle, if_neg hl, if_neg (mt hranges.mp h)])

/-- Settles O49: each operand's range, and the one table entry that each request writes. -/
theorem portTableWrites : Obligations.PortTableWrites := ⟨windowAndMap_writes, setCycle_takes⟩

/-! ### Idling, and malformed presence bytes -/

theorem step_with_no_command_idles : StepWithNoCommandIdles := by
  intro s h
  rw [step, h]

theorem writeLineSetup_out_of_range {n : Nat} {a : GroupArgs} {s : State} (hline : s.gov.line = .configure)
    (h : index? 4 n = none ∨ firstOfTwo a.lock = none ∨ inhibitOf a.inhibit = none ∨ setupsOf a.lines.toList = none) :
    writeLineSetup n a s = refuse s .range := by
  rw [writeLineSetup, if_neg (not_not.mpr hline)]
  split
  · simp_all
  · rfl

theorem malformedPresence_refused : MalformedPresenceIsRefused := by
  intro k n d s hs
  refine ⟨exec_eq_refused rfl hs rfl, fun hl => ⟨?_, ?_⟩, fun a hl ha => ?_⟩
  · exact exec_eq_refused rfl hs (writeWindow_out_of_range hl (.inr (.inr rfl)))
  · have hrefused : writeCommandMap n (.malformed k) s = refuse s .range :=
      writeCommandMap_out_of_range hl fun _ _ => rfl
    exact exec_eq_refused rfl hs hrefused
  · exact exec_eq_refused rfl hs (writeLineSetup_out_of_range hl (.inr (.inr (.inl (by rw [ha]; rfl)))))

/-- Settles O45: the step on an empty queue, and the operand readers on a malformed presence byte. -/
theorem modelChoicesOnIdlingAndPresenceBytes : Obligations.ModelChoicesOnIdlingAndPresenceBytes :=
  ⟨step_with_no_command_idles, malformedPresence_refused⟩

end Sys2Proof.Proofs

/-! Conversion entries (O50), settings and speeds (O54), the sequencer's requests (O55), and the line states (O56). -/

namespace Sys2Proof.Proofs

open Machine Statements Safety

/-! ### Range checks in the words of the statements -/

theorem firstFailing_eq_firstFalse (l : List Bool) : firstFailing l = firstFalse l := firstFailing_eq l

theorem within_eq_decide (lo hi n : Nat) : within lo hi n = decide (lo ≤ n ∧ n ≤ hi) := by
  rw [within, Bool.decide_and]

theorem within_zero (hi n : Nat) : within 0 hi n = decide (n ≤ hi) := by simp [within]

/-- A range and an item that must lie above another one (R109). -/
theorem within_above (lo hi a n : Nat) (h : lo ≤ a + 1) : (within lo hi n && decide (a < n)) = decide (a < n ∧ n ≤ hi) := by
  rw [within_eq_decide, ← Bool.decide_and, decide_eq_decide]
  omega

/-! ### WRITE_CONVERSION (R20) -/

theorem writeConversion_rebases : WriteConversionRebasesItsQuantity := by
  intro n a s hs
  refine ⟨fun hl => ?_, fun hl h => ?_, ?_⟩
  · exact exec_eq_refused rfl hs (by rw [serve, writeConversion, if_pos hl])
  · refine exec_eq_refused rfl hs ?_
    rw [serve, writeConversion, if_neg (not_not.mpr hl)]
    obtain h | h := h
    · rw [index?_none h]
    · rw [h]
      cases index? 16 n <;> rfl
  · rintro q e hl rfl he
    refine exec_eq_ok rfl hs ?_
    rw [serve, writeConversion, if_neg (not_not.mpr hl), index?_val, he]
    rfl

theorem sourceOf_some {n : Nat} {x : SourceKind} (h : sourceOf n = some x) : n < 2 ∧ x = if n = 0 then .frame else .lines := by
  unfold sourceOf at h
  split at h <;> simp_all

theorem firstOfTwo_eq_some {n : Nat} {b : Bool} (h : firstOfTwo n = some b) : n < 2 ∧ b = decide (n = 0) := by
  unfold firstOfTwo at h
  split at h <;> simp_all

theorem sourceOf_lt {n : Nat} (h : n < 2) : sourceOf n = some (if n = 0 then .frame else .lines) := by
  interval_cases n <;> rfl

/-- The entry that accepted operands give. -/
def writtenEntry (a : ConversionArgs) : ConversionEntry :=
  { enabled := decide (a.enabled = 0), source := if a.source = 0 then .frame else .lines, slotOffset := a.slotOffset,
    validity := optValue a.validity, group := a.group, firstLine := a.firstLine, bitOffset := a.bitOffset,
    width := a.width, signed := decide (a.signed = 0), gray := decide (a.gray = 0), numerator := a.numerator,
    denominator := a.denominator, offset := a.offset, maxChange := a.maxChange, staleLimit := a.staleLimit }

/-- The four operands that take one of two values. -/
def CodesTaken (a : ConversionArgs) : Prop := a.enabled < 2 ∧ a.source < 2 ∧ a.signed < 2 ∧ a.gray < 2

/-- The ranges of the fields that every source has, and of the fields of the entry's own source (section 2.2). -/
def FieldsTaken (a : ConversionArgs) : Prop :=
  1 ≤ a.width ∧ a.width ≤ 32 ∧ a.bitOffset ≤ 7 ∧ 1 ≤ a.numerator ∧ a.numerator ≤ 65535
    ∧ 1 ≤ a.denominator ∧ a.denominator ≤ 65535 ∧ -2147483648 ≤ a.offset ∧ a.offset ≤ 2147483647
    ∧ a.maxChange ≤ 2147483647 ∧ 1 ≤ a.staleLimit ∧ a.staleLimit ≤ 255
    ∧ (a.source = 0 → a.slotOffset ≤ 1023 ∧ a.slotOffset + (a.bitOffset + a.width + 7) / 8 ≤ 1024
        ∧ (a.validity = .absent ∨ ∃ v, v ≤ 1023 ∧ a.validity = .present v))
    ∧ (a.source = 1 → a.group ≤ 3 ∧ a.firstLine ≤ 7 ∧ a.bitOffset = 0 ∧ a.group * 8 + a.firstLine + a.width ≤ 32)

theorem optWithin_zero (hi : Nat) (o : OptArg) : optWithin 0 hi o = true ↔ o = .absent ∨ ∃ v, v ≤ hi ∧ o = .present v := by
  cases o <;> simp [optWithin, within_zero]

theorem entryOf_codes {a : ConversionArgs} (h : (entryOf a).isSome = true) : CodesTaken a := by
  unfold entryOf at h
  split at h
  · rename_i hen hsrc hsg hgr
    exact ⟨(firstOfTwo_eq_some hen).1, (sourceOf_some hsrc).1, (firstOfTwo_eq_some hsg).1, (firstOfTwo_eq_some hgr).1⟩
  · cases h

/-- With the four codes in range, the entry is that of the operands where their fields are taken, and absent elsewhere. -/
theorem entryOf_eq {a : ConversionArgs} (h : CodesTaken a) [Decidable (FieldsTaken a)] :
    entryOf a = if FieldsTaken a then some (writtenEntry a) else none := by
  obtain ⟨hen, hsrc, hsg, hgr⟩ := h
  unfold entryOf
  rw [firstOfTwo_some hen, sourceOf_lt hsrc, firstOfTwo_some hsg, firstOfTwo_some hgr]
  refine if_congr ?_ rfl rfl
  unfold FieldsTaken
  obtain h0 | h1 : a.source = 0 ∨ a.source = 1 := by omega
  · simp only [h0, if_true, within_eq_decide, Bool.and_eq_true, decide_eq_true_eq, optWithin_zero]
    by_cases hv : a.validity = .absent ∨ ∃ v, v ≤ 1023 ∧ a.validity = .present v
    · simp only [hv, and_true, forall_const, zero_ne_one, false_imp_iff, sourceBytes]
      omega
    · simp [hv]
  · simp only [h1, within_eq_decide, Bool.and_eq_true, decide_eq_true_eq]
    simp
    omega

open Classical in
theorem entryOf_holds : ConversionEntryHoldsItsOperands := by
  intro a e h
  have hcodes : CodesTaken a := entryOf_codes (by rw [h]; rfl)
  rw [entryOf_eq hcodes] at h
  split at h
  · obtain rfl := Option.some.inj h
    refine ⟨rfl, rfl, rfl, ?_, rfl, rfl, rfl, rfl, rfl, rfl, rfl, rfl, rfl, rfl, rfl⟩
    unfold writtenEntry
    cases a.validity <;> rfl
  · cases h

open Classical in
theorem entryOf_isSome : ConversionOperandsTaken := by
  intro a
  have hsplit : (entryOf a).isSome = true ↔ CodesTaken a ∧ FieldsTaken a := by
    constructor
    · intro h
      have hcodes := entryOf_codes h
      rw [entryOf_eq hcodes] at h
      by_contra hfields
      rw [if_neg fun hf => hfields ⟨hcodes, hf⟩] at h
      cases h
    · rintro ⟨hcodes, hfields⟩
      rw [entryOf_eq hcodes, if_pos hfields]
      rfl
  rw [hsplit]
  simp only [CodesTaken, FieldsTaken, and_assoc]

/-- Settles O50: the two refusals and the write, and the entry's operands read field by field. -/
theorem conversionWrites : Obligations.ConversionWrites := ⟨writeConversion_rebases, entryOf_isSome, entryOf_holds⟩

/-! ### Settings and speeds (R109, R129, R130, R175) -/

theorem geometryChecks_eq (g : Geometry) : geometryChecks g = geometryOperands g := by
  simp only [geometryChecks, geometryOperands, within_zero]
  rw [within_above 1 _ _ _ (by omega), within_above 1 _ _ _ (by omega)]
  simp only [within_eq_decide]

theorem writeGeometry_whole {s : State} (hs : Served s) (g : Geometry) : exec (.writeGeometry g) s =
    if s.gov.line ≠ .configure then refused s .state
    else match firstFalse (geometryOperands g) with
      | some k => refused s .range 1 k
      | none => ok (s.withTrack { s.track with geometry := some g }) [] := by
  rw [← geometryChecks_eq, ← firstFailing_eq_firstFalse]
  split
  · rename_i hl
    exact exec_eq_refused rfl hs (by rw [serve, writeGeometry, if_pos hl])
  · rename_i hl
    cases hc : firstFailing (geometryChecks g) with
    | some k => exact exec_eq_refused rfl hs (by rw [serve, writeGeometry, if_neg hl, hc])
    | none => exact exec_eq_ok rfl hs (by rw [serve, writeGeometry, if_neg hl, hc])

theorem spliceChecks_eq (tol m p : Nat) : [within 0 100000 tol, within 100 60000 m, within 100 60000 p] =
    [decide (tol ≤ 100000), decide (100 ≤ m ∧ m ≤ 60000), decide (100 ≤ p ∧ p ≤ 60000)] := by
  rw [within_zero, within_eq_decide, within_eq_decide]

theorem speedChecks_eq (x : SpeedSettings) : speedChecks x =
    [decide (1 ≤ x.vMax ∧ x.vMax ≤ 1000000), decide (1 ≤ x.vInMax ∧ x.vInMax ≤ 1000000),
      decide (1 ≤ x.aUp ∧ x.aUp ≤ 100000), decide (1 ≤ x.aDown ∧ x.aDown ≤ 100000),
      decide (1 ≤ x.aHalt ∧ x.aHalt ≤ 100000), decide (x.spliceLimit ≤ 1000000),
      decide (x.degradeLimit ≤ 1000000), decide (x.dancerSet ≤ 1000), decide (x.kp ≤ 4095),
      decide (x.trimLimit ≤ 100000)] := by
  simp only [speedChecks, within_zero, within_eq_decide 1]

theorem settings_written_whole : SettingsAreWrittenWhole := by
  intro s hs
  refine ⟨writeGeometry_whole hs, fun tol m p => ?_, fun x => ?_⟩
  · rw [← spliceChecks_eq, ← firstFailing_eq_firstFalse]
    cases hc : firstFailing [within 0 100000 tol, within 100 60000 m, within 100 60000 p] with
    | some k => exact exec_eq_refused rfl hs (by rw [serve, writeSpliceSettings, hc])
    | none => exact exec_eq_ok rfl hs (by rw [serve, writeSpliceSettings, hc])
  · rw [← speedChecks_eq, ← firstFailing_eq_firstFalse]
    cases hc : firstFailing (speedChecks x) with
    | some k => exact exec_eq_refused rfl hs (by rw [serve, writeSpeedLimits, hc])
    | none =>
      refine exec_eq_ok_of rfl hs (by rw [serve, writeSpeedLimits, hc]) ?_
      rw [leBytes_four_four, leBytes_four_four, flagByte_eq, Bool.decide_or]

theorem setSpeed_clamped : SetSpeedIsClampedToMaximum := by
  intro v s hs
  refine ⟨fun h => exec_eq_refused rfl hs (by rw [serve, setSpeed, if_pos h]), fun hv hm => ?_, fun hv hm => ?_⟩
  · refine exec_eq_ok_of rfl hs ?_ (leBytes_four_four v)
    rw [serve, setSpeed, if_neg (Nat.not_lt.mpr hv)]
    dsimp only
    rw [if_neg (Nat.not_lt.mpr hm), Nat.min_eq_left hm]
    rfl
  · rw [exec_request _ rfl, take_served ((portServes_iff _).mpr hs), serve, setSpeed, if_neg (Nat.not_lt.mpr hv)]
    dsimp only
    rw [if_pos hm, Nat.min_eq_right hm.le, leBytes_four_four]

/-- Settles O54: the checks of each request in the words of the statement, then its one write. -/
theorem settingsAndSpeedWrites : Obligations.SettingsAndSpeedWrites := ⟨settings_written_whole, setSpeed_clamped⟩

/-! ### The sequencer's requests (R79, R81, R94, R149) -/

theorem appendRun_joins : AppendRunJoinsTheTail := by
  intro n count tag s hs
  refine ⟨fun h => exec_eq_refused rfl hs ?_, ?_⟩
  · rw [serve, appendRun]
    split
    · rfl
    · rename_i p hp
      refine if_neg ?_
      have hn : n - 1 < 48 ∧ 0 < n := by
        by_contra hn
        rw [ordinal?, dif_neg hn] at hp
        cases hp
      rw [Bool.and_eq_true, within_iff, within_iff]
      omega
  · rintro p rfl hlo hhi htag
    have hranges : (within 1 65535 count && within 0 65535 tag) = true := by
      rw [Bool.and_eq_true, within_iff, within_iff]
      omega
    have hcases : serve (.appendRun (p.val + 1) count tag) s =
        if (s.store.places[p]).isNone then refuse s .absent
        else if 16 ≤ s.seq.queue.length then refuse s .full
        else (s.withSeq { s.seq with queue := s.seq.queue ++ [{ pattern := p, count := count, lotTag := tag }] },
          okay [byte (s.seq.queue.length + 1)]) := by
      rw [serve, appendRun, ordinal?_succ]
      exact if_pos hranges
    split
    · rename_i habsent
      exact exec_eq_refused rfl hs (by rw [hcases, habsent]; rfl)
    · rename_i hpresent
      rw [if_neg (by simpa using hpresent)] at hcases
      split
      · rename_i hfull
        exact exec_eq_refused rfl hs (by rw [hcases, if_pos hfull])
      · rename_i hfull
        exact exec_eq_ok rfl hs (by rw [hcases, if_neg hfull])

theorem singleItem_writes : SingleItemWrites := by
  intro s hs
  refine ⟨exec_eq_ok rfl hs rfl, exec_eq_ok rfl hs rfl, fun n => ?_, fun n => ?_⟩
  · split
    · rename_i h
      exact exec_eq_ok rfl hs (by rw [serve, setOrderLow, if_pos (by simpa [within_zero] using h)])
    · rename_i h
      exact exec_eq_refused rfl hs (by rw [serve, setOrderLow, if_neg (by simpa [within_zero] using h)])
  · split
    · rename_i h
      exact exec_eq_ok rfl hs (by rw [serve, setPressureMin, if_pos (by simpa [within_zero] using h)])
    · rename_i h
      exact exec_eq_refused rfl hs (by rw [serve, setPressureMin, if_neg (by simpa [within_zero] using h)])

/-- Settles O55: the order of APPEND_RUN's refusals, and one write for each of the others. -/
theorem sequencerRequests : Obligations.SequencerRequests := ⟨appendRun_joins, singleItem_writes⟩

/-! ### ENTER_CONFIG, LEAVE_CONFIG and STOP (R120, R121, R123) -/

theorem configuration_entered_and_left : ConfigurationIsEnteredAndLeft := by
  intro s hs
  refine ⟨fun h => ?_, fun h => ?_, fun h h' => ?_, fun h => ?_, fun h hv => ?_, fun v a b h hv => ?_⟩
  · exact exec_eq_ok rfl hs (by simp only [serve, enterConfig, h])
  · exact exec_eq_ok rfl hs (by simp only [serve, enterConfig, h])
  · refine exec_eq_refused rfl hs ?_
    rw [serve, enterConfig]
    split
    · exact absurd ‹_› h
    · exact absurd ‹_› h'
    all_goals rfl
  · exact exec_eq_refused rfl hs (by rw [serve, leaveConfig, if_pos h])
  · exact exec_eq_ok rfl hs (by rw [serve, leaveConfig, if_neg (not_not.mpr h), hv])
  · exact exec_eq_refused rfl hs (by rw [serve, leaveConfig, if_neg (not_not.mpr h), hv])

theorem stop_begins : StopBeginsTheControlledStop := by
  intro s hs
  refine ⟨fun h => ?_, fun h h' => ?_, fun h hk => ?_, fun i h hi hk => ?_⟩
  · exact exec_eq_ok rfl hs (by simp only [serve, stopLine, h])
  · refine exec_eq_refused rfl hs ?_
    rw [serve, stopLine]
    split
    · exact absurd ‹_› h
    · exact absurd ‹_› h'
    all_goals rfl
  · refine exec_eq_ok rfl hs ?_
    have hno : ∀ t : State, openKind t ≠ some .gap → setGapReason .stop t = t := by
      intro t ht
      unfold setGapReason openKind at *
      split
      · rename_i i hi
        rw [hi] at ht
        exact if_neg ht
      · rfl
    simp only [serve, stopLine, h]
    rw [hno _ (by exact hk)]
    simp [panelOpen]
  · refine exec_eq_ok rfl hs ?_
    have hkind : openKind s = some .gap := by
      simp only [openKind, hi]
      exact hk
    have hramp : (!panelOpen s) = true := by simp [panelOpen, hkind]
    simp only [serve, stopLine, h, hramp, setGapReason, State.withGov_seq, hi]
    exact congrArg (fun t => (t, okay [])) (if_pos hk)

/-- Settles O56: the line states case by case. -/
theorem lineStateRequests : Obligations.LineStateRequests := ⟨configuration_entered_and_left, stop_begins⟩

end Sys2Proof.Proofs

/-! The requests of the tunnel (O57), of the rolls (O58) and of the notice block (O59). -/

namespace Sys2Proof.Proofs

open Machine Statements Safety

/-! ### WRITE_ZONE (R141) -/

theorem isPresent_operand (n : Nat) : isPresent (.present n) = true := rfl

theorem zoneChecks_present {n r x y : Nat} {a : ZoneArgs} (hr : a.role = .present r) (hx : a.spanStart = .present x)
    (hy : a.spanEnd = .present y) : zoneChecks n a = zoneOperands n r x y a := by
  simp only [zoneChecks, zoneOperands, hr, hx, hy, optWithin, optValue, isPresent, within_eq_decide]
  simp only [decide_true, Bool.and_true, ← Bool.decide_and, Nat.zero_le, true_and]

theorem zoneChecks_absent {n : Nat} {a : ZoneArgs} (hr : a.role = .absent) (hx : a.spanStart = .absent)
    (hy : a.spanEnd = .absent) : zoneChecks n a = zoneOperands n 0 0 1 a := by
  simp only [zoneChecks, zoneOperands, hr, hx, hy, optWithin, optValue, isPresent, within_eq_decide]
  simp [← Bool.decide_and]

/-- WRITE_ZONE names the first failing operand (R141, R198). -/
theorem writeZone_refused {n k : Nat} {a : ZoneArgs} {s : State} (h : firstFailing (zoneChecks n a) = some k) :
    writeZone n a s = refuse s .range 1 k := by
  rw [writeZone, h]
  cases ordinal? 6 n <;> cases zoneFitOf a <;> rfl

theorem writeZone_writes {z : Fin 6} {a : ZoneArgs} {fit : Option ZoneFit} {s : State}
    (h : firstFailing (zoneChecks (z.val + 1) a) = none) (hfit : zoneFitOf a = some fit) :
    writeZone (z.val + 1) a s =
      if s.gov.line ≠ .configure ∧ fit ≠ s.tunnel.zones[z].fit then refuse s .state
      else (setZone s z (writtenZone fit a s.tunnel.zones[z]), okay []) := by
  rw [writeZone, ordinal?_succ, h, hfit]

/-- Role and span present or absent against each other fail the check of the span start or of the span end. -/
theorem zoneChecks_mismatched {n : Nat} {a : ZoneArgs}
    (h : (a.role = .absent) ≠ (a.spanStart = .absent) ∨ (a.spanStart = .absent) ≠ (a.spanEnd = .absent)) :
    ∃ k, firstFailing (zoneChecks n a) = some k := by
  rw [← Option.ne_none_iff_exists', ne_eq, firstFailing_none]
  intro hall
  simp only [zoneChecks, List.forall_mem_cons] at hall
  obtain ⟨-, hrole, hstart, hend, -⟩ := hall
  have hpresent : ∀ {o : OptArg} {hi : Nat}, optWithin 0 hi o = true → (o = .absent ↔ isPresent o = false) := by
    intro o hi ho
    cases o <;> simp_all [isPresent, optWithin]
  simp only [Bool.and_eq_true, decide_eq_true_eq] at hstart hend
  obtain ⟨hstart, hstart'⟩ := hstart
  obtain ⟨⟨hend, hend'⟩, -⟩ := hend
  rw [ne_eq, ne_eq, eq_iff_iff, eq_iff_iff, hpresent hrole, hpresent hstart, hpresent hend, hstart', hend', hstart'] at h
  simp at h

theorem writeZone_replaces : WriteZoneReplacesTheZone := by
  intro n a s hs
  refine ⟨fun r x y hr hx hy => ⟨fun k hk => ?_, ?_⟩, fun hr hx hy => ⟨fun k hk => ?_, ?_⟩, fun h => ?_⟩
  · rw [← zoneChecks_present hr hx hy, ← firstFailing_eq_firstFalse] at hk
    exact exec_eq_refused rfl hs (writeZone_refused hk)
  · rintro z role rfl hk hrole fit rfl
    rw [← zoneChecks_present hr hx hy, ← firstFailing_eq_firstFalse] at hk
    have hfit : zoneFitOf a = some (some { role := role, spanStart := x, spanEnd := y }) := by
      simp only [zoneFitOf, hr, hx, hy, ← hrole, roleOf_roleCode]
    have hwrites := writeZone_writes (s := s) hk hfit
    split
    · rename_i h
      exact exec_eq_refused rfl hs (by rw [serve, hwrites, if_pos h])
    · rename_i h
      exact exec_eq_ok rfl hs (by rw [serve, hwrites, if_neg h]; rfl)
  · rw [← zoneChecks_absent hr hx hy, ← firstFailing_eq_firstFalse] at hk
    exact exec_eq_refused rfl hs (writeZone_refused hk)
  · rintro z rfl hk
    rw [← zoneChecks_absent hr hx hy, ← firstFailing_eq_firstFalse] at hk
    have hfit : zoneFitOf a = some none := by simp only [zoneFitOf, hr, hx, hy]
    have hwrites := writeZone_writes (s := s) hk hfit
    split
    · rename_i h
      exact exec_eq_refused rfl hs (by rw [serve, hwrites, if_pos (h.imp_right Ne.symm)])
    · rename_i h
      exact exec_eq_ok rfl hs (by rw [serve, hwrites, if_neg (mt (And.imp_right Ne.symm) h)]; rfl)
  · obtain ⟨k, hk⟩ := zoneChecks_mismatched (n := n) h
    exact ⟨k, exec_eq_refused rfl hs (writeZone_refused hk)⟩

/-! ### ZONE_ENABLE (R144) -/

theorem zoneEnable_switches : ZoneEnableSwitchesTheZone := by
  intro n x s hs
  refine ⟨fun h => exec_eq_refused rfl hs ?_, ?_, ?_⟩
  · rw [serve, zoneEnable]
    obtain h | h | h := h
    · rw [ordinal?_none (.inl h)]
    · rw [ordinal?_none (.inr h)]
    · rw [firstOfTwo_none h]
      cases ordinal? 6 n <;> rfl
  · rintro z rfl hx hfit
    refine exec_eq_refused rfl hs ?_
    rw [serve, zoneEnable, ordinal?_succ, firstOfTwo_some hx]
    exact if_pos (by rw [hfit]; rfl)
  · rintro z rfl hx hfit old rfl
    refine exec_eq_ok rfl hs ?_
    rw [serve, zoneEnable, ordinal?_succ, firstOfTwo_some hx]
    dsimp only
    rw [if_neg (by simpa using hfit)]
    obtain rfl | rfl : x = 0 ∨ x = 1 := by omega
    · rfl
    · rfl

/-- Settles O57: the operands' checks, then the write of the one zone. -/
theorem zoneRequests : Obligations.ZoneRequests := ⟨writeZone_replaces, zoneEnable_switches⟩

/-! ### LOAD_ROLL, UNLOAD_ROLL and SPLICE_CANCEL (R161, R162, R173) -/

theorem restingState_eq (r : RollChange) : restingState r = atRestState r := by
  unfold restingState atRestState
  simp only [and_comm (a := r.spindleB.state = .active)]

theorem setSpindle_eq (r : RollChange) (n : SpindleName) (x : Spindle) : setSpindle r n x = withSpindle r n x := by
  cases n <;> rfl

theorem spindleOf_number (n : SpindleName) : spindleOf (spindleNumber n) = some n := by cases n <;> rfl

theorem withSpindle_splice (r : RollChange) (n : SpindleName) (x : Spindle) : (withSpindle r n x).splice = r.splice := by
  cases n <;> rfl

theorem withSpindle_budget (r : RollChange) (n : SpindleName) (x : Spindle) : (withSpindle r n x).budget = r.budget := by
  cases n <;> rfl

theorem loadRoll_takes : LoadRollTakesTheRoll := by
  intro k tag core thick thr s hs
  refine ⟨fun h => exec_eq_refused rfl hs ?_, ?_⟩
  · rw [serve, loadRoll]
    split
    · rename_i n t hn ht
      refine if_neg ?_
      have hk : k < 2 := by
        by_contra hk
        rw [spindleOf_none (Nat.not_lt.mp hk)] at hn
        cases hn
      have hthr : thr < 2 := by
        by_contra hthr
        rw [zeroOne_none (Nat.not_lt.mp hthr)] at ht
        cases ht
      simp only [within_eq_decide, Bool.and_eq_true, decide_eq_true_eq]
      omega
    · rfl
  · rintro n rfl h1 h2 h3 h4 h5 h6
    have hranges : (within 0 65535 tag && within 5000 20000 core && within 20 2000 thick) = true := by
      simp only [within_eq_decide, Bool.and_eq_true, decide_eq_true_eq]
      omega
    refine ⟨fun h => exec_eq_refused rfl hs ?_, ?_⟩
    · rw [serve, loadRoll, spindleOf_number, zeroOne_some h6]
      dsimp only
      rw [if_pos hranges]
      split
      · rfl
      · rename_i hempty
        exact if_pos (h.resolve_left hempty)
    · rintro hempty hready st hst r rfl
      refine exec_eq_ok rfl hs ?_
      rw [serve, loadRoll, spindleOf_number, zeroOne_some h6]
      dsimp only
      rw [if_pos hranges, if_neg (not_not.mpr hempty), if_neg (by simp [hready])]
      have hactive : (if decide (thr = 1) = true ∧ spindleIn s.roll .active = none then SpindleState.active
          else .loaded) = st := by
        rw [hst]
        exact if_congr (and_congr (by simp) (spindleIn_none _ _)) rfl rfl
      rw [hactive, setSpindle_eq, withSpindle_splice]
      split
      · rw [restingState_eq]
        rfl
      · cases n <;> rfl

theorem lineStands_iff (g : Governor) : atRest g = true ↔ LineStands g := by
  simp only [atRest, LineStands, Bool.or_eq_true, Bool.and_eq_true, decide_eq_true_eq, or_assoc]
  exact or_left_comm

theorem unloadRefused_iff (s : State) (x : Spindle) : unloadRefused s x = true ↔
    x.state = .empty ∨ (x.state = .loaded ∧ (s.roll.splice = .matching ∨ s.roll.splice = .paste))
      ∨ (x.state = .active
          ∧ (¬LineStands s.gov ∨ s.roll.splice = .matching ∨ s.roll.splice = .paste ∨ s.roll.splice = .clear)) := by
  unfold unloadRefused
  cases h : x.state <;> simp [← lineStands_iff, spliceUnderWay, or_assoc]

/-- The controller after the spindle is emptied: at its resting state where `c` says so, its budget 0 without an ACTIVE
spindle (R162, R165). -/
theorem unloaded_eq {r : RollChange} {b : Nat} {x : SpliceState} {c : Prop} [Decidable c] (hb : r.budget = b)
    (hx : r.splice = x) :
    (if spindleIn (if c then { r with splice := restingState r } else r) .active = none then
        { (if c then { r with splice := restingState r } else r) with budget := 0 }
      else (if c then { r with splice := restingState r } else r)) =
    { r with
      splice := if c then atRestState r else x
      budget := if r.spindleA.state = .active ∨ r.spindleB.state = .active then b else 0 } := by
  subst hb hx
  have hin : spindleIn (if c then { r with splice := restingState r } else r) .active = spindleIn r .active := by
    split <;> rfl
  rw [hin, restingState_eq]
  by_cases ha : r.spindleA.state = .active ∨ r.spindleB.state = .active
  · have hsome : spindleIn r .active ≠ none := by
      rw [← Option.isSome_iff_ne_none]
      exact (spindleIn_isSome _ _).mpr ha
    rw [if_neg hsome, if_pos ha]
    split <;> rfl
  · have hnone : spindleIn r .active = none := (spindleIn_none _ _).mpr (not_or.mp ha)
    rw [if_pos hnone, if_neg ha]
    split <;> rfl

theorem unloadRoll_empties : UnloadRollEmptiesTheSpindle := by
  intro k s hs
  refine ⟨fun h => exec_eq_refused rfl hs (by rw [serve, unloadRoll, spindleOf_none h]), ?_⟩
  rintro n rfl
  refine ⟨fun h => exec_eq_refused rfl hs ?_, ?_⟩
  · rw [serve, unloadRoll, spindleOf_number]
    exact if_pos ((unloadRefused_iff s _).mpr h)
  · rintro h r rfl
    have hallowed : ¬unloadRefused s (spindle s.roll n) = true := by
      rw [unloadRefused_iff]
      rintro (h' | ⟨h', h''⟩ | ⟨h', h''⟩) <;> obtain h | ⟨h, h1, h2⟩ | ⟨h, h0, h1, h2, h3⟩ := h <;> simp_all
    refine exec_eq_ok rfl hs ?_
    rw [serve, unloadRoll, spindleOf_number]
    dsimp only
    rw [if_neg hallowed, setSpindle_eq, withSpindle_splice]
    exact congrArg (fun r => (s.withRoll r, okay [])) (unloaded_eq (withSpindle_budget _ _ _) (withSpindle_splice _ _ _))

theorem spliceCancel_rests : SpliceCancelRestsTheController := by
  intro s hs
  split
  · rename_i h
    refine exec_eq_ok rfl hs ?_
    rw [serve, spliceCancel, if_pos h, settleSplice, if_pos h, restingState_eq]
  · rename_i h
    exact exec_eq_refused rfl hs (by rw [serve, spliceCancel, if_neg h])

/-- Settles O58: the refusals of each request, and the controller it leaves. -/
theorem spindleRequests : Obligations.SpindleRequests := ⟨loadRoll_takes, unloadRoll_empties, spliceCancel_rests⟩

/-! ### WRITE_NOTICE_ROUTE, SET_REPORT_MASK and CLEAR_NOTICES (R190, R191, R193) -/

theorem writeNoticeRoute_replaces : WriteNoticeRouteReplacesTheRoute := by
  intro n e c g s hs
  refine ⟨fun h => exec_eq_refused rfl hs ?_, ?_⟩
  · rw [serve, writeNoticeRoute]
    split
    · rename_i hn he hc hg
      exfalso
      obtain h | h | h | h := h
      · rw [index?_none h] at hn
        cases hn
      · rw [firstOfTwo_none h] at he
        cases he
      · rw [classOf_none h] at hc
        cases hc
      · rw [index?_none h] at hg
        cases hg
    · rfl
  · rintro i k cls rfl he rfl rfl
    have hcases : serve (.writeNoticeRoute i.val e (classCode cls) k.val) s =
        if isFixed i && (!decide (e = 0) || decide (cls ≠ .halt)) then refuse s .isProtected
        else (s.withNotices { s.notices with
            routes := s.notices.routes.set i { enabled := decide (e = 0), cls := cls, group := k } },
          okay (routeBytes s.notices.routes[i] ++ flagByte (isPending s.notices i))) := by
      rw [serve, writeNoticeRoute, index?_val, firstOfTwo_some he, classOf_classCode, index?_val]
    refine ⟨fun hfixed hnot => exec_eq_refused rfl hs ?_, fun hallowed => ?_⟩
    · rw [hcases, isFixed_iff]
      refine if_pos ?_
      simp only [hfixed, decide_true, Bool.true_and, Bool.or_eq_true, Bool.not_eq_true', decide_eq_true_eq,
        decide_eq_false_iff_not]
      exact hnot.imp_left fun h => by omega
    · refine exec_eq_ok_of rfl hs (p := routeBytes s.notices.routes[i] ++ flagByte (isPending s.notices i)) ?_ ?_
      · rw [hcases, isFixed_iff]
        refine if_neg ?_
        simp only [Bool.and_eq_true, Bool.or_eq_true, Bool.not_eq_true', decide_eq_true_eq, decide_eq_false_iff_not]
        rintro ⟨hfixed, hnot⟩
        obtain ⟨h0, h3, h24, h34⟩ | ⟨h, h'⟩ := hallowed
        · simp_all
        · exact hnot.elim (fun hn => hn h) fun hn => hn h'
      · simp only [routeBytes, leBytes_one_byte, firstOfTwo_byte, flagByte_eq]
        rfl

theorem mask_and_clearing : MaskAndClearing := by
  intro x s hs
  refine ⟨exec_eq_ok_of rfl hs rfl (noticeSetBytes_eq _), s.notices.pendingSet &&& ~~~x, s.notices.pendingSet &&& x,
    exec_eq_ok_of rfl hs rfl ?_, fun i => ⟨?_, ?_⟩⟩
  · rw [noticeSetBytes_eq, noticeSetBytes_eq]
  · simp [isPending]
  · simp [isPending]

/-- Settles O59: the refusals of WRITE_NOTICE_ROUTE, and the bits of the two sets. -/
theorem noticeRequests : Obligations.NoticeRequests := ⟨writeNoticeRoute_replaces, mask_and_clearing⟩

end Sys2Proof.Proofs

/-! WRITE_LINE_SETUP and SET_LINES (O51): the lists of operands as relations between operands and what they decode to. -/

namespace Sys2Proof.Proofs

open Machine Statements Safety

/-! ### One line of WRITE_LINE_SETUP (R37) -/

theorem modeOf_lt {n : Nat} (h : n < 3) : modeOf n = some (if n = 0 then .live else if n = 1 then .latched else .grayLatched) := by
  interval_cases n <;> rfl

theorem functionOf_lt {n : Nat} (h : n < 14) : ∃ f, functionOf n = some f ∧ functionCode f = n := by
  interval_cases n <;> exact ⟨_, rfl, rfl⟩

/-- A line in range decodes, its function numbered as the operand. -/
theorem lineSetupOf_lt {a : LineArgs} (hp : a.polarity < 2) (hm : a.mode < 3) (hf : a.function < 14) :
    ∃ x, lineSetupOf a = some x ∧ x.inverting = decide (a.polarity = 1) ∧ x.manual = false
      ∧ x.mode = (if a.mode = 0 then .live else if a.mode = 1 then .latched else .grayLatched)
      ∧ functionCode x.function = a.function := by
  obtain ⟨f, hf, hcode⟩ := functionOf_lt hf
  have hinverting : (!decide (a.polarity = 0)) = decide (a.polarity = 1) := by
    obtain h | h : a.polarity = 0 ∨ a.polarity = 1 := by omega
    · simp [h]
    · simp [h]
  refine ⟨{ inverting := decide (a.polarity = 1),
            mode := if a.mode = 0 then .live else if a.mode = 1 then .latched else .grayLatched
            function := f, manual := false }, ?_, rfl, rfl, rfl, hcode⟩
  simp only [lineSetupOf, firstOfTwo_some hp, modeOf_lt hm, hf, hinverting]

theorem lineSetupOf_function {a : LineArgs} {x : LineSetup} (h : lineSetupOf a = some x) :
    functionCode x.function = a.function := by
  unfold lineSetupOf at h
  split at h
  · rename_i hf
    obtain rfl := Option.some.inj h
    by_cases hlt : a.function < 14
    · obtain ⟨g, hg, hcode⟩ := functionOf_lt hlt
      rw [hg] at hf
      rw [← hcode, ← Option.some.inj hf]
    · rw [functionOf_none (Nat.not_lt.mp hlt)] at hf
      cases hf
  · cases h

theorem lineSetupOf_none {a : LineArgs} (h : 2 ≤ a.polarity ∨ 3 ≤ a.mode ∨ 14 ≤ a.function) : lineSetupOf a = none := by
  unfold lineSetupOf
  obtain h | h | h := h
  · rw [firstOfTwo_none h]
  · rw [modeOf_none h]
    cases firstOfTwo a.polarity <;> rfl
  · rw [functionOf_none h]
    cases firstOfTwo a.polarity <;> cases modeOf a.mode <;> rfl

theorem lineSetupOperands_read : LineSetupOperandsRead := by
  intro p m f
  obtain ⟨x, hx, hinv, hman, hmode, hcode⟩ :=
    lineSetupOf_lt (a := { polarity := p.val, mode := m.val, function := f.val }) p.isLt m.isLt f.isLt
  refine ⟨x, hx, ?_, hman, ?_, hcode⟩
  · rw [hinv]
    exact decide_eq_decide.mpr (Fin.ext_iff (a := p) (b := 1)).symm
  · rw [hmode]
    exact if_congr (Fin.ext_iff (a := m) (b := 0)).symm rfl (if_congr (Fin.ext_iff (a := m) (b := 1)).symm rfl rfl)

/-! ### The lines of a group -/

theorem setupsOf_eq_some (l : List LineArgs) (new : List LineSetup) :
    setupsOf l = some new ↔ List.Forall₂ (fun a x => lineSetupOf a = some x) l new := by
  induction l generalizing new with
  | nil => simp [setupsOf, eq_comm]
  | cons a rest ih =>
    unfold setupsOf
    constructor
    · intro h
      split at h
      · rename_i hx hrest
        obtain rfl := Option.some.inj h
        exact .cons hx ((ih _).mp hrest)
      · cases h
    · rintro (_ | ⟨hx, hrest⟩)
      rw [hx, (ih _).mpr hrest]

/-- The eight lines of a group decode one by one. -/
theorem setupsOf_vector (v : Vector LineArgs 8) (new : List LineSetup) : setupsOf v.toList = some new ↔
    new.length = 8 ∧ ∀ i : Fin 8, new[i.val]? = lineSetupOf v[i] ∧ (lineSetupOf v[i]).isSome = true := by
  rw [setupsOf_eq_some, List.forall₂_iff_get]
  constructor
  · rintro ⟨hlen, h⟩
    have hnew : new.length = 8 := by simpa using hlen.symm
    refine ⟨hnew, fun i => ?_⟩
    have hi : lineSetupOf v[i] = some new[i.val] := h i.val (by simp) (by omega)
    rw [hi]
    exact ⟨List.getElem?_eq_getElem _, rfl⟩
  · rintro ⟨hnew, h⟩
    refine ⟨by simp [hnew], fun i hi hi' => ?_⟩
    obtain ⟨hget, -⟩ := h ⟨i, by omega⟩
    rw [List.getElem?_eq_getElem hi'] at hget
    exact hget.symm

theorem isExclusive_iff (f : LineFunction) : isExclusive f = true ↔ functionCode f ≠ 0 ∧ functionCode f ≠ 13 := by
  cases f <;> decide

theorem functionsDistinct_iff (fs : List LineFunction) :
    functionsDistinct fs = true ↔ fs.Pairwise fun f g => ¬(isExclusive f = true ∧ f = g) := by
  induction fs with
  | nil => simp [functionsDistinct]
  | cons f rest ih =>
    rw [functionsDistinct, List.pairwise_cons, ← ih, Bool.and_eq_true]
    refine and_congr_left fun _ => ?_
    simp only [Bool.not_eq_true', Bool.and_eq_false_iff, List.contains_eq_mem, decide_eq_false_iff_not]
    constructor
    · rintro (h | h) g hg ⟨hex, rfl⟩
      · exact absurd hex (by simp [h])
      · exact h hg
    · intro h
      by_cases hex : isExclusive f = true
      · exact .inr fun hmem => h f hmem ⟨hex, rfl⟩
      · exact .inl (by simpa using hex)

theorem carriedElsewhere_iff (s : State) (g : Fin 4) (f : LineFunction) : carriedElsewhere s g f = true ↔
    isExclusive f = true ∧ ∃ l : Fin 32, groupOf l ≠ g ∧ s.lines.lines[l].function = f := by
  simp [carriedElsewhere]

/-- What the decoded functions of a group and its operands say of each other. -/
theorem setups_function {v : Vector LineArgs 8} {new : List LineSetup} (h : setupsOf v.toList = some new) (i : Fin 8) :
    ∃ x, new[i.val]? = some x ∧ lineSetupOf v[i] = some x ∧ functionCode x.function = v[i].function := by
  obtain ⟨-, hnew⟩ := (setupsOf_vector v new).mp h
  obtain ⟨hget, hsome⟩ := hnew i
  obtain ⟨x, hx⟩ := Option.isSome_iff_exists.mp hsome
  exact ⟨x, hget.trans hx, hx, lineSetupOf_function hx⟩

theorem setups_distinct_iff {v : Vector LineArgs 8} {new : List LineSetup} (h : setupsOf v.toList = some new) :
    functionsDistinct (new.map LineSetup.function) = true ↔
      ∀ i j : Fin 8, v[i].function = v[j].function → i = j ∨ v[i].function = 0 ∨ v[i].function = 13 := by
  have hlen : new.length = 8 := ((setupsOf_vector v new).mp h).1
  have hcode : ∀ (i : Fin 8) (hi : i.val < (new.map LineSetup.function).length),
      functionCode ((new.map LineSetup.function)[i.val]) = v[i].function := fun i hi => by
    obtain ⟨x, hget, -, hx⟩ := setups_function h i
    have hi' : i.val < new.length := by simpa using hi
    rw [List.getElem?_eq_getElem hi'] at hget
    rw [List.getElem_map, Option.some.inj hget, hx]
  have hlen' : (new.map LineSetup.function).length = 8 := by simp [hlen]
  rw [functionsDistinct_iff, List.pairwise_iff_getElem]
  constructor
  · intro hpairs
    have hordered : ∀ i j : Fin 8, i < j → v[i].function = v[j].function → v[i].function = 0 ∨ v[i].function = 13 := by
      intro i j hij hf
      have hnot := hpairs i.val j.val (by omega) (by omega) hij
      rw [isExclusive_iff, ← functionCode_inj, hcode i, hcode j] at hnot
      tauto
    intro i j hf
    obtain hlt | rfl | hlt := lt_trichotomy i j
    · exact .inr (hordered i j hlt hf)
    · exact .inl rfl
    · exact .inr (hf ▸ hordered j i hlt hf.symm)
  · rintro hall i j hi hj hij ⟨hex, heq⟩
    rw [isExclusive_iff, hcode ⟨i, by omega⟩ hi] at hex
    rw [← functionCode_inj, hcode ⟨i, by omega⟩ hi, hcode ⟨j, by omega⟩ hj] at heq
    obtain h | h | h := hall _ _ heq
    · exact absurd (congrArg Fin.val h) (by simpa using hij.ne)
    · exact hex.1 h
    · exact hex.2 h

theorem setups_carried_iff {v : Vector LineArgs 8} {new : List LineSetup} (h : setupsOf v.toList = some new) (s : State)
    (g : Fin 4) : (new.map LineSetup.function).any (carriedElsewhere s g) = true ↔
      ∃ (i : Fin 8) (l : Fin 32), l.val / 8 ≠ g.val ∧ v[i].function = functionCode s.lines.lines[l].function
        ∧ v[i].function ≠ 0 ∧ v[i].function ≠ 13 := by
  have hgroup : ∀ l : Fin 32, groupOf l ≠ g ↔ l.val / 8 ≠ g.val := fun l => not_congr Fin.ext_iff
  have hlen : new.length = 8 := ((setupsOf_vector v new).mp h).1
  rw [List.any_map, List.any_eq_true]
  constructor
  · rintro ⟨x, hx, hcarried⟩
    obtain ⟨hex, l, hl, hf⟩ := (carriedElsewhere_iff s g _).mp hcarried
    obtain ⟨i, hi, rfl⟩ := List.mem_iff_getElem.mp hx
    obtain ⟨y, hget, -, hy⟩ := setups_function h ⟨i, by omega⟩
    rw [List.getElem?_eq_getElem hi] at hget
    obtain rfl := Option.some.inj hget
    rw [isExclusive_iff, hy] at hex
    exact ⟨⟨i, by omega⟩, l, (hgroup l).mp hl, by rw [hf, hy], hex⟩
  · rintro ⟨i, l, hl, hf, hex⟩
    obtain ⟨y, hget, -, hy⟩ := setups_function h i
    refine ⟨y, List.mem_of_getElem? hget, (carriedElsewhere_iff s g _).mpr ⟨?_, l, (hgroup l).mpr hl, ?_⟩⟩
    · rw [isExclusive_iff, hy]
      exact hex
    · rw [← functionCode_inj, hy, hf]

/-! ### WRITE_LINE_SETUP -/

theorem inhibitOf_some {o : OptArg} (h : o = .absent ∨ ∃ v, o = .present v ∧ v < 32) :
    ∃ x, inhibitOf o = some x ∧ x.map Fin.val = optValue o := by
  obtain rfl | ⟨v, rfl, hv⟩ := h
  · exact ⟨none, rfl, rfl⟩
  · exact ⟨some ⟨v, hv⟩, by simp [inhibitOf, index?_lt hv], rfl⟩

theorem writeLineSetup_refused {n : Nat} {a : GroupArgs} {s : State} (hl : s.gov.line = .configure)
    (h : 4 ≤ n ∨ 2 ≤ a.lock ∨ (∃ v, a.inhibit = .present v ∧ 32 ≤ v)
      ∨ (∃ i : Fin 8, 2 ≤ a.lines[i].polarity ∨ 3 ≤ a.lines[i].mode ∨ 14 ≤ a.lines[i].function)
      ∨ (∃ i j : Fin 8, i ≠ j ∧ a.lines[i].function = a.lines[j].function
          ∧ a.lines[i].function ≠ 0 ∧ a.lines[i].function ≠ 13)
      ∨ (∃ (i : Fin 8) (l : Fin 32), l.val / 8 ≠ n ∧ a.lines[i].function = functionCode s.lines.lines[l].function
          ∧ a.lines[i].function ≠ 0 ∧ a.lines[i].function ≠ 13)) : writeLineSetup n a s = refuse s .range := by
  obtain h | h | ⟨v, h, hv⟩ | ⟨i, h⟩ | ⟨i, j, hij, hf, h0, h13⟩ | ⟨i, l, hl', hf, h0, h13⟩ := h
  · exact writeLineSetup_out_of_range hl (.inl (index?_none h))
  · exact writeLineSetup_out_of_range hl (.inr (.inl (firstOfTwo_none h)))
  · exact writeLineSetup_out_of_range hl (.inr (.inr (.inl (by rw [h, inhibitOf, index?_none hv]; rfl))))
  · refine writeLineSetup_out_of_range hl (.inr (.inr (.inr ?_)))
    rw [Option.eq_none_iff_forall_ne_some]
    intro new hnew
    obtain ⟨x, -, hx, -⟩ := setups_function hnew i
    rw [lineSetupOf_none h] at hx
    cases hx
  · rw [writeLineSetup, if_neg (not_not.mpr hl)]
    split
    · rename_i hnew
      refine if_neg fun hc => ?_
      have hdistinct := (setups_distinct_iff hnew).mp ((Bool.and_eq_true _ _).mp hc).1 i j hf
      tauto
    · rfl
  · rw [writeLineSetup, if_neg (not_not.mpr hl)]
    split
    · rename_i g _ _ _ hg _ _ hnew
      have hgn : g.val = n := by
        unfold index? at hg
        split at hg
        · rw [← Option.some.inj hg]
        · cases hg
      refine if_neg fun hc => ?_
      have hnone := ((Bool.and_eq_true _ _).mp hc).2
      rw [Bool.not_eq_true', ← Bool.not_eq_true, setups_carried_iff hnew] at hnone
      exact hnone ⟨i, l, hgn ▸ hl', hf, h0, h13⟩
    · rfl

/-- The lines with one group set up anew. -/
def withGroup (x : FieldLines) (g : Fin 4) (locked : Bool) (inhibit : Option (Fin 32)) (new : List LineSetup) :
    FieldLines :=
  { x with groups := x.groups.set g { x.groups[g] with locked := locked, inhibit := inhibit }
           lines := replaceGroup x.lines g new }

section
variable (x : FieldLines) {g : Fin 4} (locked : Bool) (inhibit : Option (Fin 32)) (new : List LineSetup)

theorem withGroup_same : (withGroup x g locked inhibit new).groups[g] =
    { x.groups[g] with locked := locked, inhibit := inhibit } := Vector.getElem_set_self _

theorem withGroup_other {k : Fin 4} (h : g ≠ k) : (withGroup x g locked inhibit new).groups[k] = x.groups[k] :=
  Vector.getElem_set_ne g.isLt k.isLt fun e => h (Fin.ext e)

theorem withGroup_line (l : Fin 32) : (withGroup x g locked inhibit new).lines[l] =
    if groupOf l = g then new.getD (l.val % 8) x.lines[l] else x.lines[l] := by
  simp [withGroup, replaceGroup]

end

theorem writeLineSetup_replaces : WriteLineSetupReplacesTheGroup := by
  intro n a s hs
  refine ⟨fun hl => exec_eq_refused rfl hs (by rw [serve, writeLineSetup, if_pos hl]),
    fun hl h => exec_eq_refused rfl hs (writeLineSetup_refused hl h), ?_⟩
  rintro g hl rfl hlock hinhibit hlines hdistinct hcarried
  obtain ⟨x, hx, hxval⟩ := inhibitOf_some hinhibit
  have hdecoded : ∀ i : Fin 8, (lineSetupOf a.lines[i]).isSome = true := fun i => by
    obtain ⟨hp, hm, hf⟩ := hlines i
    obtain ⟨y, hy, -⟩ := lineSetupOf_lt hp hm hf
    rw [hy]
    rfl
  obtain ⟨new, hnew⟩ : ∃ new, setupsOf a.lines.toList = some new :=
    ⟨List.ofFn fun i => (lineSetupOf a.lines[i]).get (hdecoded i), (setupsOf_vector _ _).mpr
      ⟨List.length_ofFn, fun i => ⟨by rw [List.getElem?_ofFn, dif_pos i.isLt]; exact Option.some_get _, hdecoded i⟩⟩⟩
  have htaken : (functionsDistinct (new.map LineSetup.function)
      && !((new.map LineSetup.function).any (carriedElsewhere s g))) = true := by
    rw [Bool.and_eq_true, Bool.not_eq_true', ← Bool.not_eq_true, setups_distinct_iff hnew, setups_carried_iff hnew]
    refine ⟨hdistinct, ?_⟩
    rintro ⟨i, l, hne, hf, h0, h13⟩
    obtain h | h | h := hcarried i l hf
    · exact hne h
    · exact h0 h
    · exact h13 h
  have htakes : serve (.writeLineSetup g.val a) s =
      (s.withLines (withGroup s.lines g (decide (a.lock = 0)) x new), okay []) := by
    rw [serve, writeLineSetup, if_neg (not_not.mpr hl), index?_val, firstOfTwo_some hlock, hx, hnew]
    exact if_pos htaken
  refine ⟨_, exec_eq_ok rfl hs htakes, rfl, rfl, rfl, fun k => ?_, ?_, ?_, fun i l hil => ?_, fun l hl => ?_⟩
  · by_cases hk : g = k
    · subst hk
      exact ⟨by rw [withGroup_same], fun h => absurd rfl h⟩
    · have hother := withGroup_other s.lines (decide (a.lock = 0)) x new hk
      exact ⟨by rw [hother], fun _ => hother⟩
  · rw [withGroup_same]
  · rw [withGroup_same]
    exact hxval
  · have hgroup : groupOf l = g := Fin.ext (by simp only [groupOf]; omega)
    have hplace : l.val % 8 = i.val := by omega
    obtain ⟨y, hy, hread, -⟩ := setups_function hnew i
    rw [withGroup_line, if_pos hgroup, hplace, hread, List.getD_eq_getElem?_getD, hy]
    rfl
  · have hgroup : groupOf l ≠ g := fun e => hl (congrArg Fin.val e)
    rw [withGroup_line, if_neg hgroup]

/-! ### SET_LINES (R38) -/

/-- A pair of SET_LINES and what it decodes to. -/
def PairReads (p : Nat × Nat) (q : Fin 32 × Bool) : Prop := p.1 = q.1.val ∧ p.2 = if q.2 then 0 else 1

theorem manualPairs_nil : manualPairs [] = some [] := rfl

theorem manualPairs_none {l : List (Nat × Nat)} (h : ∃ p ∈ l, 32 ≤ p.1 ∨ 2 ≤ p.2) : manualPairs l = none := by
  induction l with
  | nil => simp at h
  | cons p rest ih =>
    obtain ⟨q, hq, hbad⟩ := h
    unfold manualPairs
    split
    · rename_i hn hv hrest
      exfalso
      obtain rfl | hq := List.mem_cons.mp hq
      · obtain hbad | hbad := hbad
        · rw [index?_none hbad] at hn
          cases hn
        · rw [firstOfTwo_none hbad] at hv
          cases hv
      · rw [ih ⟨q, hq, hbad⟩] at hrest
        cases hrest
    · rfl

theorem manualPairs_some {l : List (Nat × Nat)} (h : ∀ p ∈ l, p.1 < 32 ∧ p.2 < 2) :
    ∃ ps, manualPairs l = some ps ∧ List.Forall₂ PairReads l ps := by
  induction l with
  | nil => exact ⟨[], rfl, .nil⟩
  | cons p rest ih =>
    obtain ⟨ps, hps, hreads⟩ := ih fun q hq => h q (List.mem_cons_of_mem _ hq)
    obtain ⟨hn, hv⟩ := h p List.mem_cons_self
    refine ⟨(⟨p.1, hn⟩, decide (p.2 = 0)) :: ps, ?_, .cons ⟨rfl, ?_⟩ hreads⟩
    · rw [manualPairs, index?_lt hn, firstOfTwo_some hv, hps]
    · obtain h0 | h1 : p.2 = 0 ∨ p.2 = 1 := by omega
      · simp [h0]
      · simp [h1]

theorem pairs_numbers {l : List (Nat × Nat)} {ps : List (Fin 32 × Bool)} (h : List.Forall₂ PairReads l ps) :
    l.map Prod.fst = ps.map fun q => q.1.val := by
  induction h with
  | nil => rfl
  | cons hp _ ih => rw [List.map_cons, List.map_cons, ih, hp.1]

theorem pairs_mem_iff {l : List (Nat × Nat)} {ps : List (Fin 32 × Bool)} (h : List.Forall₂ PairReads l ps) (n : Fin 32)
    (b : Bool) : (n.val, if b then 0 else 1) ∈ l ↔ (n, b) ∈ ps := by
  induction h with
  | nil => simp
  | @cons p q l ps hp _ ih =>
    rw [List.mem_cons, List.mem_cons, ih, Prod.ext_iff, Prod.ext_iff]
    obtain ⟨hn, hv⟩ := hp
    refine or_congr_left (and_congr ?_ ?_)
    · rw [hn]
      exact Fin.ext_iff.symm
    · rw [hv]
      cases b <;> cases q.2 <;> simp

theorem linesDistinct_iff (ps : List (Fin 32 × Bool)) : linesDistinct ps = true ↔ (ps.map Prod.fst).Nodup := by
  induction ps with
  | nil => simp [linesDistinct]
  | cons p rest ih => simp [linesDistinct, ih]

theorem pairs_nodup {l : List (Nat × Nat)} {ps : List (Fin 32 × Bool)} (h : List.Forall₂ PairReads l ps) :
    (l.map Prod.fst).Nodup ↔ linesDistinct ps = true := by
  rw [linesDistinct_iff, pairs_numbers h, ← List.nodup_map_iff Fin.val_injective, List.map_map]
  rfl

/-- A line that no pair names keeps its setup. -/
theorem setManuals_other {ps : List (Fin 32 × Bool)} {v : Vector LineSetup 32} {n : Fin 32} (h : n ∉ ps.map Prod.fst) :
    (setManuals ps v)[n] = v[n] := by
  induction ps generalizing v with
  | nil => rfl
  | cons p rest ih =>
    rw [List.map_cons, List.mem_cons, not_or] at h
    rw [setManuals, ih h.2]
    exact Vector.getElem_set_ne p.1.isLt n.isLt fun e => h.1 (Fin.ext e.symm)

/-- A line that a pair names takes that pair's value as its manual value. -/
theorem setManuals_named {ps : List (Fin 32 × Bool)} {v : Vector LineSetup 32} {n : Fin 32} {b : Bool}
    (hd : (ps.map Prod.fst).Nodup) (h : (n, b) ∈ ps) : (setManuals ps v)[n] = { v[n] with manual := b } := by
  induction ps generalizing v with
  | nil => simp at h
  | cons p rest ih =>
    rw [List.map_cons, List.nodup_cons] at hd
    rw [setManuals]
    obtain rfl | h := List.mem_cons.mp h
    · rw [setManuals_other hd.1]
      exact Vector.getElem_set_self _
    · have hne : p.1 ≠ n := fun e => hd.1 (e ▸ List.mem_map_of_mem h)
      rw [ih hd.2 h]
      exact congrArg (fun x : LineSetup => { x with manual := b })
        (Vector.getElem_set_ne p.1.isLt n.isLt fun e => hne (Fin.ext e))

theorem setManuals_line {l : List (Nat × Nat)} {ps : List (Fin 32 × Bool)} (h : List.Forall₂ PairReads l ps)
    (hd : (ps.map Prod.fst).Nodup) (v : Vector LineSetup 32) (n : Fin 32) : (setManuals ps v)[n] =
      { v[n] with manual := if (n.val, 0) ∈ l then true else if (n.val, 1) ∈ l then false else v[n].manual } := by
  have htrue : (n.val, 0) ∈ l ↔ (n, true) ∈ ps := pairs_mem_iff h n true
  have hfalse : (n.val, 1) ∈ l ↔ (n, false) ∈ ps := pairs_mem_iff h n false
  split
  · rename_i hmem
    exact setManuals_named hd (htrue.mp hmem)
  · rename_i hno
    split
    · rename_i hmem
      exact setManuals_named hd (hfalse.mp hmem)
    · rename_i hno'
      refine setManuals_other fun hmem => ?_
      obtain ⟨⟨m, b⟩, hq, rfl⟩ := List.mem_map.mp hmem
      cases b
      · exact hno' (hfalse.mpr hq)
      · exact hno (htrue.mpr hq)

theorem isSettable_iff (s : State) (n : Fin 32) : isSettable s n = true ↔
    s.lines.lines[n].function = .manual ∧ s.lines.groups[groupOf n].locked = false := by
  simp [isSettable]

theorem setLines_refused {ps : List (Nat × Nat)} (s : State)
    (h : ps.length = 0 ∨ 32 < ps.length ∨ (∃ p ∈ ps, 32 ≤ p.1 ∨ 2 ≤ p.2) ∨ ¬(ps.map Prod.fst).Nodup) :
    setLines ps s = refuse s .range := by
  unfold setLines
  split
  · rename_i hlen
    rw [within_iff] at hlen
    by_cases hall : ∀ p ∈ ps, p.1 < 32 ∧ p.2 < 2
    · obtain ⟨qs, hqs, hreads⟩ := manualPairs_some hall
      have hdup : ¬linesDistinct qs = true := by
        rw [← pairs_nodup hreads]
        obtain h | h | ⟨p, hp, h⟩ | h := h
        · omega
        · omega
        · have := hall p hp
          omega
        · exact h
      rw [hqs]
      exact if_neg hdup
    · push Not at hall
      obtain ⟨p, hp, hbad⟩ := hall
      rw [manualPairs_none ⟨p, hp, by omega⟩]
  · rfl

theorem setLines_sets : SetLinesSetsManualValues := by
  intro ps s hs
  refine ⟨fun h => exec_eq_refused rfl hs (setLines_refused s h), fun hlo hhi hall hnodup => ?_⟩
  obtain ⟨qs, hqs, hreads⟩ := manualPairs_some hall
  have hdistinct := (pairs_nodup hreads).mp hnodup
  have hnames : ∀ n : Fin 32, n.val ∈ ps.map Prod.fst ↔ n ∈ qs.map Prod.fst := fun n => by
    rw [pairs_numbers hreads]
    simp [← Fin.ext_iff]
  have hcases : serve (.setLines ps) s = if qs.all (fun p => isSettable s p.1) then
      (s.withLines { s.lines with lines := setManuals qs s.lines.lines }, okay []) else refuse s .isProtected := by
    rw [serve, setLines, if_pos ((within_iff _ _ _).mpr ⟨hlo, hhi⟩), hqs]
    exact if_pos hdistinct
  constructor
  · rintro ⟨n, hn, hbad⟩
    refine exec_eq_refused rfl hs (hcases.trans (if_neg fun h => ?_))
    obtain ⟨q, hq, rfl⟩ := List.mem_map.mp ((hnames n).mp hn)
    obtain ⟨hman, hlock⟩ := (isSettable_iff s _).mp (List.all_eq_true.mp h q hq)
    obtain hbad | hbad := hbad
    · exact hbad hman
    · exact absurd (hlock.symm.trans hbad) (by decide)
  · intro hgood
    have hsettable : qs.all (fun p => isSettable s p.1) = true := by
      rw [List.all_eq_true]
      exact fun q hq => (isSettable_iff s _).mpr (hgood q.1 ((hnames _).mpr (List.mem_map_of_mem hq)))
    exact ⟨_, exec_eq_ok rfl hs (hcases.trans (if_pos hsettable)), rfl, rfl, rfl, rfl, fun n =>
      setManuals_line hreads ((linesDistinct_iff _).mp hdistinct) _ n⟩

/-- Settles O51: WRITE_LINE_SETUP by its refusals and its one group, SET_LINES by the pairs it names. -/
theorem lineRequests : Obligations.LineRequests := ⟨writeLineSetup_replaces, lineSetupOperands_read, setLines_sets⟩

end Sys2Proof.Proofs

/-! Halting: the closing of the open record (O16), RAISE_TEST (O15), START (O13), ACK_HALT (O14), the laws at power-on
(O37). -/

namespace Sys2Proof.Proofs

open Machine Statements Safety

/-! ### The joint test and the closing of a record (R98, R172) -/

/-- A record with its mark SPLICED at a value. -/
def withSpliced (b : Bool) (r : TrackRecord) : TrackRecord := { r with marks := { r.marks with spliced := b } }

/-- The joint test changes at most the mark SPLICED of the one record. -/
theorem markSpliced_track (s : State) (i : Fin 64) : ∃ b, (markSpliced s i).track =
    { s.track with records := s.track.records.set i (withSpliced b (recordAt s i)) } := by
  have hkept : ∃ b, s.track = { s.track with records := s.track.records.set i (withSpliced b (recordAt s i)) } := by
    refine ⟨(recordAt s i).marks.spliced, ?_⟩
    have : s.track.records.set i (recordAt s i) = s.track.records := Vector.set_getElem_self _
    exact congrArg (fun v => { s.track with records := v }) this.symm
  unfold markSpliced
  split
  · dsimp only
    split
    · exact ⟨true, rfl⟩
    · exact hkept
  · exact hkept

theorem markSpliced_roll (s : State) (i : Fin 64) : (markSpliced s i).roll = s.roll := by
  unfold markSpliced
  split
  · dsimp only
    split <;> rfl
  · rfl

theorem markSpliced_seq (s : State) (i : Fin 64) : (markSpliced s i).seq = s.seq := by
  unfold markSpliced
  split
  · dsimp only
    split <;> rfl
  · rfl

theorem closeAgainstJoint_track (s : State) (i : Fin 64) :
    (closeAgainstJoint s i).track = (markSpliced s i).track := by
  rw [closeAgainstJoint]
  split <;> rfl

theorem closeAgainstJoint_seq (s : State) (i : Fin 64) : (closeAgainstJoint s i).seq = s.seq := by
  rw [closeAgainstJoint]
  split <;> exact markSpliced_seq s i

/-- The joint test and the closing change nothing of the controller but its joint span. -/
theorem closeAgainstJoint_roll (s : State) (i : Fin 64) :
    ∃ x, (closeAgainstJoint s i).roll = { s.roll with span := x } := by
  rw [closeAgainstJoint]
  split
  · exact ⟨s.roll.span, markSpliced_roll s i⟩
  · exact ⟨none, congrArg (fun r : RollChange => { r with span := none }) (markSpliced_roll s i)⟩

/-- Settles O16: a PANEL closes with measured lengths and its joint test, any other record flat; the two writes of the one
record make one. -/
theorem haltClosesTheOpenRecord : Obligations.HaltClosesTheOpenRecord := by
  intro s i hi
  by_cases hkind : (recordAt s i).kind = some .panel
  · have hclosed : closeHalted s =
        noOpenRecord (closeAgainstJoint (updateRecord s i (closedAborted (infeed s) (belt s))) i) := by
      rw [closeHalted, hi]
      exact if_pos hkind
    obtain ⟨b, hb⟩ := markSpliced_track (updateRecord s i (closedAborted (infeed s) (belt s))) i
    have hset : recordAt (updateRecord s i (closedAborted (infeed s) (belt s))) i =
        closedAborted (infeed s) (belt s) (recordAt s i) := recordAt_setRecord_same s i _
    rw [hset] at hb
    refine ⟨withSpliced b (closedAborted (infeed s) (belt s) (recordAt s i)), ?_, ?_, rfl, rfl, rfl, rfl, rfl,
      fun _ => ⟨rfl, rfl, rfl, rfl⟩, fun h => absurd hkind h⟩
    · rw [hclosed]
      exact congrArg (fun q : Sequencer => { q with openRecord := none }) (closeAgainstJoint_seq _ i)
    · rw [hclosed]
      refine ((closeAgainstJoint_track _ i).trans hb).trans ?_
      exact congrArg (fun v => { s.track with records := v }) (Vector.set_set _ _)
  · have hclosed : closeHalted s = noOpenRecord (updateRecord s i (closedFlat (infeed s))) := by
      rw [closeHalted, hi]
      refine (if_neg hkind).trans ?_
      rw [closeFlat, hi]
    exact ⟨closedFlat (infeed s) (recordAt s i), by rw [hclosed]; rfl, by rw [hclosed]; rfl, rfl, rfl, rfl, rfl, rfl,
      fun h => absurd h hkind, fun _ => ⟨rfl, rfl, by rw [hclosed]; rfl⟩⟩

/-! ### The line's entry into HALTED (R126, R67, R174) -/

theorem closeHalted_seq (s : State) : (closeHalted s).seq = { s.seq with openRecord := none } := by
  cases h : s.seq.openRecord with
  | none =>
    rw [closeHalted, h]
    exact congrArg (fun x => { s.seq with openRecord := x }) h
  | some i =>
    obtain ⟨r, hseq, -⟩ := haltClosesTheOpenRecord s i h
    exact hseq

/-- A closing in HALTED changes nothing of the controller but its joint span. -/
theorem closeHalted_roll (s : State) : ∃ x, (closeHalted s).roll = { s.roll with span := x } := by
  unfold closeHalted
  split
  · split
    · exact closeAgainstJoint_roll _ _
    · refine ⟨s.roll.span, ?_⟩
      unfold closeFlat
      split <;> rfl
  · exact ⟨s.roll.span, rfl⟩

theorem settleHalted_seq (s : State) : (settleHalted s).seq =
    { s.seq with openRecord := if s.gov.line = .halted ∧ s.gov.command = 0 then none else s.seq.openRecord } := by
  unfold settleHalted
  split
  · exact closeHalted_seq s
  · rfl

theorem settleHalted_roll (s : State) : ∃ x, (settleHalted s).roll = { s.roll with span := x } := by
  unfold settleHalted
  split
  · exact closeHalted_roll s
  · exact ⟨s.roll.span, rfl⟩

/-- The controller after a line's entry into HALTED (R174). -/
def haltedRoll (r : RollChange) : RollChange :=
  if r.splice = .matching then { r with splice := .armed, matchCount := 0 } else r

/-- The governor after a line's entry into HALTED (R126). -/
def haltedGov (g : Governor) : Governor := { g with line := .halted, rampStarted := false, target := 0, source := .halt }

/-- The entry into HALTED block by block, before the open record closes. -/
theorem enterHalted_eq (s : State) :
    enterHalted s = settleHalted (((haltFolds s).withGov (haltedGov s.gov)).withRoll (haltedRoll s.roll)) := by
  have hgov : (haltFolds s).gov = s.gov := (haltFolds_frame s).2.2.2.2.2.1
  have hroll : (haltFolds s).roll = s.roll := by simp
  unfold enterHalted haltedRoll haltedGov
  dsimp only
  rw [State.withGov_roll, hroll]
  split
  · rfl
  · rw [← hroll]
    rfl

theorem enterHalted_gov (s : State) : (enterHalted s).gov = haltedGov s.gov := by
  rw [enterHalted_eq]
  simp

theorem enterHalted_folds (s : State) : (enterHalted s).folds = (haltFolds s).folds := by
  rw [enterHalted_eq]
  simp

theorem enterHalted_roll (s : State) : ∃ x, (enterHalted s).roll = { haltedRoll s.roll with span := x } := by
  rw [enterHalted_eq]
  exact settleHalted_roll _

theorem enterHalted_seq (s : State) : (enterHalted s).seq =
    { s.seq with openRecord := if s.gov.command = 0 then none else s.seq.openRecord, cursor := none } := by
  rw [enterHalted_eq, settleHalted_seq]
  have hhalted : (haltedGov s.gov).line = .halted ∧ (haltedGov s.gov).command = 0 ↔ s.gov.command = 0 :=
    and_iff_right rfl
  simp only [State.withRoll_gov, State.withGov_gov, hhalted]
  rfl

theorem enterHalted_track (s : State) (h : 0 < s.gov.command) : (enterHalted s).track = s.track := by
  have hmoving : ¬((haltedGov s.gov).line = .halted ∧ (haltedGov s.gov).command = 0) := fun hc => by
    have : s.gov.command = 0 := hc.2
    omega
  rw [enterHalted_eq, settleHalted, if_neg (by simpa using hmoving)]
  simp

/-! ### RAISE_TEST (R188, R195) -/

/-- The state with one more notice pending. -/
def withPendingNotice (n : Notice) (s : State) : State :=
  s.withNotices { s.notices with pendingSet := s.notices.pendingSet ||| noticeBit (noticeIndex n) }

theorem isPending_withPendingNotice_other {n : Notice} (s : State) {i : Fin 40} (h : i ≠ noticeIndex n) :
    isPending (withPendingNotice n s).notices i = isPending s.notices i := by
  have hbit : (noticeBit (noticeIndex n)).getLsbD i.val = false := by
    have hval : i.val ≠ (noticeIndex n).val := fun e => h (Fin.ext e)
    simp [noticeBit]
    omega
  simp only [isPending, withPendingNotice, State.withNotices_notices, BitVec.getLsbD_or, hbit, Bool.or_false]

/-- A raising of an enabled notice that halts nothing. -/
theorem raiseNotice_pends {n : Notice} {s : State} (he : s.notices.routes[noticeIndex n].enabled = true)
    (h : s.notices.routes[noticeIndex n].cls ≠ .halt ∨ lineRunning s.gov.line = false) :
    raiseNotice n s = withPendingNotice n s := by
  unfold raiseNotice
  dsimp only
  rw [if_pos he]
  split
  · rename_i hcls
    exact haltDemand_at_rest _ (h.resolve_left (not_not.mpr hcls))
  · rfl

/-- A raising of an enabled notice of class HALT in a running line. -/
theorem raiseNotice_halts {n : Notice} {s : State} (he : s.notices.routes[noticeIndex n].enabled = true)
    (hcls : s.notices.routes[noticeIndex n].cls = .halt) (hrun : lineRunning s.gov.line = true) :
    raiseNotice n s = enterHalted (withPendingNotice n s) := by
  unfold raiseNotice
  dsimp only
  rw [if_pos he, if_pos hcls]
  exact if_pos hrun

theorem lineRunning_iff (l : LineState) : lineRunning l = true ↔ l = .run ∨ l = .stopping := by
  simp [lineRunning]

/-- Settles O15: the three cases of R188 and R189, and the entry into HALTED block by block. -/
theorem raiseTestRaisesTest : Obligations.RaiseTestRaisesTest := by
  intro s hs
  refine ⟨raiseNotice .test s, _, exec_eq_ok_of rfl hs rfl (flagByte_eq _), rfl, raiseNotice_disabled .test s, fun he => ?_⟩
  refine ⟨raiseNotice_pending .test s he, fun i hi => ?_, (raiseNotice_settings .test s).2.2.2.2.2.2.1,
    (raiseNotice_settings .test s).2.2.2.2.2.2.2.1, fun h => ?_, fun hcls hrun => ?_⟩
  · have hpends := isPending_withPendingNotice_other (n := .test) s hi
    obtain h | ⟨t, rfl, h | ⟨-, h⟩⟩ := raiseNotice_cases .test s
    · rw [h]
    · rw [h]
      exact hpends
    · rw [h, (enterHalted_frame _).2.2.2.2.2.2.1]
      exact hpends
  · rw [raiseNotice_pends he (h.imp_right fun h' => by simpa [lineRunning] using h')]
    rfl
  · rw [raiseNotice_halts he hcls ((lineRunning_iff _).mpr hrun)]
    obtain ⟨x, hroll⟩ := enterHalted_roll (withPendingNotice .test s)
    obtain ⟨hport, hconverter, hlines, hstore, htunnel, htakeOff, -⟩ := enterHalted_frame (withPendingNotice .test s)
    rw [enterHalted_gov, enterHalted_folds, enterHalted_seq, hroll]
    refine ⟨rfl, rfl, inFlight_haltFolds _, rfl, rfl, rfl, rfl, rfl, rfl, fun h => ?_, fun h => ?_, fun h => ⟨?_, ?_⟩,
      fun h => if_pos h, hport, hconverter, hlines, hstore, htunnel, htakeOff⟩
    · have hmatching : haltedRoll (withPendingNotice .test s).roll =
          { s.roll with splice := .armed, matchCount := 0 } := if_pos h
      rw [hmatching]
      exact ⟨rfl, rfl⟩
    · have hother : haltedRoll (withPendingNotice .test s).roll = s.roll := if_neg h
      rw [hother]
    · exact if_neg h.ne'
    · exact enterHalted_track _ h

/-! ### START (R95, R107, R122) -/

/-- R107 in the words of the statements. -/
theorem openingOutStart_is (s : State) : IsOpeningOutStart s (openingOutStart s) := by
  refine ⟨?_, fun h => ?_⟩
  · rintro j hj o rfl
    have hlatest : latestRecord s.track = some j := hj
    have hreached : reached (belt s) (outStartOf (recordAt s j)) = true ↔
        Statements.Reaches (belt s) (outStartOf (recordAt s j)) := by
      simp [reached, Statements.Reaches]
    rw [openingOutStart, hlatest]
    exact ⟨fun h => if_pos (hreached.mpr h), fun h => if_neg (mt hreached.mp h)⟩
  · have hlatest : latestRecord s.track = none := by
      rw [latestRecord, h]
      rfl
    rw [openingOutStart, hlatest]

theorem startConditions_eq (s : State) : startConditions s =
    [decide (s.gov.line = .stopped), decide (s.port.state = .active), !haltPending s.notices,
      decide (s.roll.spindleA.state = .active ∨ s.roll.spindleB.state = .active),
      !infeedLost s && !beltLost s, decide (s.track.free ≠ [])] := by
  have hfed : (spindleIn s.roll .active).isSome =
      decide (s.roll.spindleA.state = .active ∨ s.roll.spindleB.state = .active) := by
    rw [Bool.eq_iff_iff, spindleIn_isSome, decide_eq_true_eq]
  rw [startConditions, hfed]

/-- Settles O13: the first failing condition is named; with all six met, FREE has a head, which the GAP opens. -/
theorem startOpensTheRestartGap : Obligations.StartOpensTheRestartGap := by
  intro s hs
  refine ⟨fun k hk => ?_, fun i rest hline hport hhalt hfed hinfeed hbelt hfree => ?_⟩
  · rw [← startConditions_eq, ← firstFailing_eq_firstFalse] at hk
    exact exec_eq_refused rfl hs (by rw [serve, startLine, hk])
  · have hconditions : firstFailing (startConditions s) = none := by
      rw [firstFailing_none, startConditions_eq]
      simp [hline, hport, hhalt, hfed, hinfeed, hbelt, hfree]
    refine ⟨{ openedRecord s .gap with gapReason := some .restart }, exec_eq_ok rfl hs ?_, rfl, rfl, rfl, rfl,
      ⟨_, rfl, openingOutStart_is s⟩, rfl, rfl, rfl, rfl, rfl, rfl, rfl, rfl, rfl, rfl, rfl, rfl⟩
    rw [serve, startLine, hconditions]
    simp only [openGap, allocate, hfree]
    rfl

/-! ### ACK_HALT (R128, R174) -/

/-- Settles O14: the branches of ACK_HALT in their order; the law of a line at rest gives the rest. -/
theorem ackHaltLeavesTheHalt : Obligations.AckHaltLeavesTheHalt := by
  intro s hs
  refine ⟨?_, fun ⟨_, hclosed⟩ hline hcommand => hclosed (.inr (.inr ⟨hline, hcommand⟩))⟩
  split
  · rename_i hline
    exact exec_eq_refused rfl hs (by rw [serve, ackHalt, if_pos hline])
  · rename_i hline
    split
    · rename_i hcommand
      exact exec_eq_refused rfl hs (by rw [serve, ackHalt, if_neg hline, if_pos hcommand])
    · rename_i hcommand
      split
      · rename_i hhalt
        exact exec_eq_refused rfl hs (by rw [serve, ackHalt, if_neg hline, if_neg hcommand, if_pos hhalt])
      · rename_i hhalt
        exact exec_eq_ok rfl hs (by rw [serve, ackHalt, if_neg hline, if_neg hcommand, if_neg hhalt]; rfl)

/-! ### The laws at power-on -/

/-- Settles O37: each law at the power-on values. -/
theorem lawsHoldAtReset : Obligations.LawsHoldAtReset := by
  refine ⟨listsWhole_of_allFree (v := view State.reset) rfl, ⟨Nat.zero_le _, Nat.zero_le _⟩,
    ⟨Nat.zero_le _, Nat.zero_le _⟩, ?_, ⟨by decide, fun _ => rfl⟩, ?_, rfl,
    ⟨by decide, by decide, fun h => absurd h (by decide)⟩, ?_⟩
  · intro p x hx
    simp [State.reset, PatternStore.reset] at hx
  · unfold FixedNoticesHalt
    decide
  · unfold ValvesWithinRange
    decide

end Sys2Proof.Proofs

/-! The reset tables: power-on (O46) and RESET (O47), block by block. -/

namespace Sys2Proof.Proofs

open Machine Statements Safety

/-! ### Each block at power-on -/

theorem port_atPowerOn (straps : BitVec 4) : PortAtPowerOn straps (RingPort.reset straps) := by
  simp [PortAtPowerOn, RingPort.reset]

theorem converter_atPowerOn : ConverterAtPowerOn Converter.reset := by
  intro q
  simp [Converter.reset, ConversionEntry.reset, Quantity.reset]

theorem lines_atPowerOn (pins : Lines) : LinesAtPowerOn (FieldLines.reset pins) := by
  simp [LinesAtPowerOn, FieldLines.reset]

theorem store_atPowerOn : StoreAtPowerOn PatternStore.reset := by
  unfold StoreAtPowerOn
  decide

theorem track_atPowerOn : ListsCleared Track.reset ∧ (∀ i : Fin 64, Unused Track.reset.records[i])
    ∧ Track.reset.geometry = none := by
  refine ⟨⟨rfl, rfl, rfl, rfl, rfl, rfl⟩, fun i => ?_, rfl⟩
  have hi : Track.reset.records[i] = TrackRecord.unused := by simp [Track.reset]
  rw [hi]
  exact ⟨rfl, rfl, rfl, rfl, rfl, rfl, rfl, rfl, rfl, rfl, rfl, rfl, rfl, rfl, rfl, rfl, rfl⟩

theorem tunnel_atPowerOn : TunnelAtPowerOn Tunnel.reset := by
  simp [TunnelAtPowerOn, Tunnel.reset, Zone.reset]

theorem routes_atPowerOn : RoutesAtPowerOn Notices.reset := by
  unfold RoutesAtPowerOn
  decide

theorem seq_cleared : SequencerCleared Sequencer.reset := by
  simp [SequencerCleared, Sequencer.reset]

theorem speeds_cleared : SpeedsCleared Governor.reset := by
  simp [SpeedsCleared, Governor.reset]

/-- A state whose blocks are those of power-on, with any pin levels and with only abandoned requests. -/
theorem blocks_atPowerOn {t : State} {pins : Lines} (hconverter : t.converter = Converter.reset)
    (hlines : t.lines = FieldLines.reset pins) (hstore : t.store = PatternStore.reset) (hfolds : FoldsCleared t.folds)
    (hseq : t.seq = Sequencer.reset) (htrack : t.track = Track.reset) (hgov : t.gov = Governor.reset)
    (htunnel : t.tunnel = Tunnel.reset) (hroll : t.roll = RollChange.reset) (htakeOff : t.takeOff = TakeOff.reset)
    (hnotices : t.notices = Notices.reset) : BlocksAtPowerOn t := by
  unfold BlocksAtPowerOn
  rw [hconverter, hlines, hstore, hseq, htrack, hgov, htunnel, hroll, htakeOff, hnotices]
  obtain ⟨hlists, hrecords, hgeometry⟩ := track_atPowerOn
  exact ⟨converter_atPowerOn, lines_atPowerOn pins, store_atPowerOn, hfolds, seq_cleared, rfl, hlists, hrecords, hgeometry,
    rfl, speeds_cleared, ⟨rfl, rfl⟩, tunnel_atPowerOn, rfl, rfl, routes_atPowerOn, rfl, rfl⟩

theorem folds_cleared_at_powerOn : FoldsCleared Calculator.reset := ⟨rfl, rfl, rfl, rfl, rfl⟩

/-- Settles O46: State.reset and POWER_ON hold the same blocks. -/
theorem powerOnLeavesPowerOnValues : Obligations.PowerOnLeavesPowerOnValues := by
  refine ⟨⟨port_atPowerOn 0, blocks_atPowerOn rfl rfl rfl folds_cleared_at_powerOn rfl rfl rfl rfl rfl rfl rfl, rfl⟩, ?_⟩
  intro straps s
  exact ⟨_, rfl, port_atPowerOn straps, blocks_atPowerOn rfl rfl rfl folds_cleared_at_powerOn rfl rfl rfl rfl rfl rfl rfl,
    rfl, rfl, rfl, rfl, rfl⟩

/-! ### RESET (R199, R200) -/

theorem folds_cleared_of_halt (s : State) : FoldsCleared (haltFolds s).folds :=
  ⟨inFlight_haltFolds s, rfl, rfl, rfl, rfl⟩

theorem resetRun_column : ResetRunGivesRunColumn := by
  intro s hs
  refine ⟨fun h => ?_, fun h => ?_⟩
  · exact exec_eq_refused rfl hs (by rw [serve, resetRun, if_neg (mt (lineStands_iff _).mp h)])
  · refine ⟨clearRun s, exec_eq_ok rfl hs (by rw [serve, resetRun, if_pos ((lineStands_iff _).mpr h)]), rfl, rfl, rfl, rfl,
      folds_cleared_of_halt s, ⟨rfl, rfl, rfl, rfl, rfl, rfl, rfl⟩, rfl, ⟨rfl, rfl, rfl, rfl, rfl, rfl⟩, rfl, rfl, rfl,
      ⟨rfl, rfl, rfl, rfl, rfl, rfl, rfl, rfl, rfl, rfl⟩, rfl, rfl, fun z => ?_, fun i => ?_, rfl, rfl, rfl, rfl, rfl,
      rfl, rfl, rfl, rfl, rfl, rfl, rfl, rfl, rfl, rfl, rfl, rfl, rfl, rfl, rfl⟩
    · simp [clearRun, Tunnel.afterRun]
    · simp [clearRun, Tunnel.afterRun]

theorem resetFull_powerOn : ResetFullGivesPowerOnValues := by
  intro s hs
  have hfolds : FoldsCleared (clearFull s).folds := ⟨inFlight_haltFolds s, rfl, rfl, rfl, rfl⟩
  exact ⟨clearFull s, exec_eq_ok rfl hs rfl, rfl, blocks_atPowerOn rfl rfl rfl hfolds rfl rfl rfl rfl rfl rfl rfl,
    rfl, rfl, rfl, rfl⟩

/-- Settles O47: RESET RUN item by item, RESET FULL by the blocks at power-on. -/
theorem resetLeavesItsColumn : Obligations.ResetLeavesItsColumn := ⟨resetRun_column, resetFull_powerOn⟩

end Sys2Proof.Proofs

/-! The frame's layout (R201) and the command fields (R202, R203): O24. -/

namespace Sys2Proof.Proofs
open Machine Statements Safety

/-! ### The layout of a frame -/

/-- The ten bytes before the slot area. -/
def headerBytes (f : Frame) : List Byte :=
  [f.kind, f.flags] ++ two f.cycle.toNat ++ four f.timestamp.toNat ++ two f.slotLength.toNat

/-- The five bytes before the request payload. -/
def requestHead (f : Frame) : List Byte := [f.target, f.code] ++ two f.tag.toNat ++ [f.payloadLength]

/-- The four bytes before the reply payload. -/
def replyHead (f : Frame) : List Byte := [f.replyStatus] ++ two f.tagEcho.toNat ++ [f.replyLength]

/-- The bytes of a frame after its slot area and before its trailer. -/
def serviceBytes (f : Frame) : List Byte :=
  requestHead f ++ (f.payload.toList ++ (replyHead f ++ f.replyPayload.toList))

theorem headerBytes_length (f : Frame) : (headerBytes f).length = 10 := rfl

theorem serviceBytes_length (f : Frame) : (serviceBytes f).length = 393 := by
  simp [serviceBytes, requestHead, replyHead, two]

theorem frameBytes_eq (f : Frame) : frameBytes f = headerBytes f ++ (f.slots ++ serviceBytes f) := by
  unfold frameBytes headerBytes serviceBytes requestHead replyHead
  rw [leBytes_two_two, leBytes_four_four, leBytes_two_two, leBytes_two_two, leBytes_two_two]
  simp only [List.append_assoc]

theorem wireBytes_eq (f : Frame) : wireBytes f = headerBytes f ++ (f.slots ++ (serviceBytes f ++ four f.crc.toNat)) := by
  rw [wireBytes, frameBytes_eq, trailerBytes, leBytes_four_four]
  simp only [List.append_assoc]

theorem wireBytes_service (f : Frame) :
    (wireBytes f).drop (10 + f.slots.length) = serviceBytes f ++ four f.crc.toNat := by
  rw [wireBytes_eq, ← headerBytes_length f, ← List.drop_drop, List.drop_left, List.drop_left]

/-- The parts of the service area and the trailer, by their offsets in it. -/
theorem serviceBytes_parts (f : Frame) (l : List Byte) (h : l = serviceBytes f ++ four f.crc.toNat) :
    l.take 5 = requestHead f ∧ (l.drop 5).take 192 = f.payload.toList ∧ (l.drop 197).take 4 = replyHead f
    ∧ (l.drop 201).take 192 = f.replyPayload.toList ∧ l.drop 393 = four f.crc.toNat := by
  have hp : f.payload.toList.length = 192 := f.payload.length_toList
  have hr : f.replyPayload.toList.length = 192 := f.replyPayload.length_toList
  have hl : l = requestHead f ++ (f.payload.toList ++ (replyHead f ++ (f.replyPayload.toList ++ four f.crc.toNat))) := by
    rw [h, serviceBytes]
    simp only [List.append_assoc]
  have h5 : l.drop 5 = f.payload.toList ++ (replyHead f ++ (f.replyPayload.toList ++ four f.crc.toNat)) := by
    rw [hl]; exact List.drop_left' rfl
  have h197 : l.drop 197 = replyHead f ++ (f.replyPayload.toList ++ four f.crc.toNat) := by
    rw [show 197 = 5 + 192 from rfl, ← List.drop_drop, h5]; exact List.drop_left' hp
  have h201 : l.drop 201 = f.replyPayload.toList ++ four f.crc.toNat := by
    rw [show 201 = 197 + 4 from rfl, ← List.drop_drop, h197]; exact List.drop_left' rfl
  refine ⟨?_, ?_, ?_, ?_, ?_⟩
  · rw [hl]; exact List.take_left' rfl
  · rw [h5]; exact List.take_left' hp
  · rw [h197]; exact List.take_left' rfl
  · rw [h201]; exact List.take_left' hr
  · rw [show 393 = 201 + 192 from rfl, ← List.drop_drop, h201]; exact List.drop_left' hr

/-- A good frame has the CRC of its bytes. -/
theorem frameFinding_crc {p : RingPort} {f : Frame} (h : frameFinding p f = none) : frameCrc f = f.crc := by
  by_contra hc
  rw [frameFinding, if_pos hc] at h
  cases h

/-- A good frame has the slot area its header says. -/
theorem frameFinding_slots {p : RingPort} {f : Frame} (h : frameFinding p f = none) :
    f.slots.length = f.slotLength.toNat := by
  have hl : slotLengthPasses p f = true := by
    unfold frameFinding at h
    repeat' split at h
    all_goals first | assumption | cases h
  simp only [slotLengthPasses, Bool.and_eq_true, decide_eq_true_eq] at hl
  exact hl.1.1

theorem frame_layout : FrameLayout := by
  intro f hf
  have hheader : (wireBytes f).take 10 = headerBytes f := by
    rw [wireBytes_eq]; exact List.take_left' rfl
  have hslots : ((wireBytes f).drop 10).take f.slotLength.toNat = f.slots := by
    rw [wireBytes_eq, List.drop_left' (headerBytes_length f)]; exact List.take_left' hf
  have hservice : ∀ service, service = (wireBytes f).drop (10 + f.slotLength.toNat) →
      service = serviceBytes f ++ four f.crc.toNat := by
    intro service h
    rw [h, ← hf, wireBytes_service]
  have hbefore : (wireBytes f).take (403 + f.slotLength.toNat) = frameBytes f := by
    refine List.take_left' ?_
    rw [frameBytes_eq, List.length_append, List.length_append, headerBytes_length, serviceBytes_length, hf]
    omega
  refine ⟨hheader, hslots, fun service h => serviceBytes_parts f service (hservice service h), fun p hp => ?_,
    fun p g hg hp => hg (frameFinding_slots hp)⟩
  rw [hbefore]
  exact (frameFinding_crc hp).symm

/-! ### The command fields -/

theorem strokeBytes_eq (k : Stroke) : strokeBytes k = strokeEntry k := by
  unfold strokeBytes strokeEntry actionsCode
  simp only [leBytes_four_four, leBytes_two_two, leBytes_one_byte, mul_bit, List.append_assoc, List.cons_append,
    List.nil_append]
  simp only [bit_eq]

theorem strokes_length (ks : List Stroke) : (ks.flatMap strokeEntry).length = 9 * ks.length := by
  induction ks with
  | nil => rfl
  | cons k ks ih =>
    rw [List.flatMap_cons, List.length_append, ih, List.length_cons, show (strokeEntry k).length = 9 from rfl]
    omega

/-- Filling up with zeroes: a list no longer than the field stands whole, and zeroes follow it. -/
theorem padded_of_le {n : Nat} {l : List Byte} (h : l.length ≤ n) :
    (padded n l).toList = l ++ List.replicate (n - l.length) 0 := by
  apply List.ext_getElem
  · simp; omega
  · intro i h1 h2
    have hi : (padded n l).toList[i] = l.getD i 0 := by simp [padded]
    rw [hi, List.getElem_append]
    split
    · next hlt => simp [hlt]
    · next hge => simp [Nat.le_of_not_lt hge]

theorem strokesBytes_eq {ks : List Stroke} (h : ks.length ≤ 4) :
    strokesBytes ks = ks.flatMap strokeEntry ++ List.replicate (36 - 9 * ks.length) 0 := by
  have hlength := strokes_length ks
  rw [strokesBytes, show strokeBytes = strokeEntry from funext strokeBytes_eq, padded_of_le (by omega), hlength]

theorem valvesBytes_eq (t : Tunnel) :
    valvesBytes t = (List.finRange 6).flatMap (fun z => two t.zones[z].opening) := by
  have hl : t.zones.toList = (List.finRange 6).map (fun z => t.zones[z]) := by
    apply List.ext_getElem <;> simp
  rw [valvesBytes, hl, List.flatMap_map]
  rfl

theorem lowestCode_byte (n : Notices) : byte (lowestCode n) =
    (match lowestPending n with
     | some i => byte i.val
     | none => 255) := by
  unfold lowestCode
  cases lowestPending n <;> rfl

theorem lastPanelBytes_eq (p : Option (Nat × Nat)) : lastPanelBytes p =
    (match p with
     | none => [0, 0, 0, 0, 0, 0, 0]
     | some p => 1 :: (two p.1 ++ four p.2)) := by
  cases p with
  | none => rfl
  | some p => simp only [lastPanelBytes, leBytes_one_byte, leBytes_two_two, leBytes_four_four]; rfl

theorem lastPanelBytes_length (p : Option (Nat × Nat)) : (lastPanelBytes p).length = 7 := by
  cases p <;> rfl

theorem statusBytes_length (s : State) : (statusBytes s).length = 26 := by
  simp only [statusBytes, List.length_append, leBytes_length, lastPanelBytes_length]

theorem fieldBytes_length (s : State) (i : Fin 9) : (fieldBytes s i).length = fieldSize i := by
  match i with
  | 0 => exact (padded 36 _).length_toList
  | 1 | 2 | 3 | 4 => rfl
  | 5 => show (pasteBytes s.roll.paste).length = 2; rcases s.roll.paste with _ | _ | _ <;> rfl
  | 6 =>
    show (valvesBytes s.tunnel).length = 12
    rw [valvesBytes_eq]
    rfl
  | 7 => show (cutBytes s.takeOff.cutEntry).length = 6; cases s.takeOff.cutEntry <;> rfl
  | 8 => exact statusBytes_length s

theorem cutBytes_eq (c : CutEntry) : cutBytes (some c) = four c.position.toNat ++ [byte c.record.val,
    match c.disposition with
    | .good => 1
    | .reject => 2
    | .waste => 3] := by
  rw [cutBytes, leBytes_four_four]
  cases c.disposition <;> rfl

/-- The status record, item by item (R203). -/
theorem statusBytes_eq (s : State) : statusBytes s =
    [byte (lineStateCode s.gov.line), byte (kindCode (openKind s)), byte (gapReasonCode (openGapReason s)),
     byte (spliceStateCode s.roll.splice)] ++ four s.gov.command ++ four s.gov.target
    ++ [byte (sourceCode s.gov.source), byte (lowestCode s.notices), byte (pendingCount s.notices),
        byte (groupFlagsCode s.notices), byte s.track.free.length, byte s.track.done.length]
    ++ lastPanelBytes s.seq.lastPanel ++ [byte (errorCode s.port.lastError)] := by
  unfold statusBytes
  simp only [leBytes_one_byte, leBytes_four_four, List.append_assoc, List.cons_append, List.nil_append]

theorem groupFlagsCode_eq (n : Notices) : groupFlagsCode n =
    (if groupFlag n 0 then 1 else 0) + (if groupFlag n 1 then 2 else 0) + (if groupFlag n 2 then 4 else 0)
      + (if groupFlag n 3 then 8 else 0) := by
  simp only [groupFlagsCode, mul_bit]
  simp only [bit_eq]

/-- Settles O24: each command field by its own lemma. -/
theorem commandFieldLayout : Obligations.CommandFieldLayout := by
  refine ⟨frame_layout, fun s => ⟨fieldBytes_length s, fun h => strokesBytes_eq h, leBytes_four_four _, leBytes_four_four _,
    leBytes_four_four _, leBytes_four_four _, fun h => ?_, fun h => ?_, fun h => ?_, valvesBytes_eq _, fun h => ?_,
    fun c h => ?_, ?_⟩⟩
  · show pasteBytes s.roll.paste = _; rw [h]; rfl
  · show pasteBytes s.roll.paste = _; rw [h]; rfl
  · show pasteBytes s.roll.paste = _; rw [h]; rfl
  · show cutBytes s.takeOff.cutEntry = _; rw [h]; rfl
  · exact (congrArg cutBytes h).trans (cutBytes_eq c)
  · show statusBytes s = _
    rw [statusBytes_eq, lastPanelBytes_eq, groupFlagsCode_eq, lowestCode_byte] <;> rfl

end Sys2Proof.Proofs

/-! What a frame's work keeps: the zones' fits and settings, the groups' setups, and every setting (O20). -/

namespace Sys2Proof.Proofs

open Machine Statements Safety

/-! ### What an arrival makes of a zone -/

/-- The law of the valves, for one zone. -/
def ZoneSound (z : Zone) : Prop :=
  z.opening ≤ 1000 ∧ z.integrator ≤ 256000 ∧ z.settings.fallback ≤ 1000 ∧ (z.fit = none → z.state = .off ∧ z.opening = 0)

/-- What an arrival's work keeps of a zone. -/
structure ZoneWorked (x y : Zone) : Prop where
  fit : y.fit = x.fit
  settings : y.settings = x.settings
  sound : ZoneSound x → ZoneSound y

theorem ZoneWorked.refl (x : Zone) : ZoneWorked x x := ⟨rfl, rfl, id⟩

theorem ZoneWorked.trans {x y z : Zone} (h : ZoneWorked x y) (h' : ZoneWorked y z) : ZoneWorked x z :=
  ⟨h'.fit.trans h.fit, h'.settings.trans h.settings, h'.sound ∘ h.sound⟩

/-- What an arrival's work keeps of the six zones. -/
def ZonesWorked (s t : State) : Prop := ∀ z : Fin 6, ZoneWorked s.tunnel.zones[z] t.tunnel.zones[z]

theorem ZonesWorked.of_eq {s t : State} (h : t.tunnel.zones = s.tunnel.zones) : ZonesWorked s t := fun z => by
  rw [h]
  exact .refl _

theorem ZonesWorked.of_tunnel_eq {s t : State} (h : t.tunnel = s.tunnel) : ZonesWorked s t :=
  .of_eq (congrArg Tunnel.zones h)

theorem ZonesWorked.trans {s t u : State} (h : ZonesWorked s t) (h' : ZonesWorked t u) : ZonesWorked s u :=
  fun z => (h z).trans (h' z)

/-- A zone update writes the state and the progress alone, and leaves a zone OFF as it is (R145 to R147). -/
theorem zoneUpdate_writes (z : Zone) (q : Quantity) :
    ∃ x p, (zoneUpdate z q).1 = { z with state := x, progress := p } ∧ (z.state = .off → x = .off) := by
  have hsettling : ∀ (y : Zone) t, ∃ x p, zoneSettling y t = { y with state := x, progress := p } := by
    intro y t
    unfold zoneSettling
    split
    · split
      · exact ⟨_, _, rfl⟩
      · exact ⟨y.state, _, rfl⟩
    · exact ⟨y.state, _, rfl⟩
  have hband : ∀ (y : Zone) t, ∃ x p, (zoneUpdateInBand y t).1 = { y with state := x, progress := p } := by
    intro y t
    unfold zoneUpdateInBand
    split
    · exact ⟨_, _, rfl⟩
    · dsimp only
      split
      · exact ⟨y.state, y.progress, rfl⟩
      · exact hsettling y t
  unfold zoneUpdate
  split
  · exact ⟨z.state, z.progress, rfl, id⟩
  · next hoff =>
    split
    · exact ⟨_, _, rfl, fun h => absurd h hoff⟩
    · split
      · obtain ⟨x, p, h⟩ := hband { z with state := .warming, progress := 0 } q.value.toNat
        exact ⟨x, p, h, fun h => absurd h hoff⟩
      · obtain ⟨x, p, h⟩ := hband z q.value.toNat
        exact ⟨x, p, h, fun h => absurd h hoff⟩

theorem zoneUpdate_worked (z : Zone) (q : Quantity) : ZoneWorked z (zoneUpdate z q).1 := by
  obtain ⟨x, p, h, hoff⟩ := zoneUpdate_writes z q
  rw [h]
  refine ⟨rfl, rfl, fun ⟨hopening, hinteg, hfallback, hunfitted⟩ => ⟨hopening, hinteg, hfallback, fun hfit => ?_⟩⟩
  exact ⟨hoff (hunfitted hfit).1, (hunfitted hfit).2⟩

theorem clampInt_zero_le (hi : Nat) (x : Int) : (clampInt 0 hi x).toNat ≤ hi := by
  unfold clampInt
  split
  · exact Nat.zero_le _
  · split <;> omega

theorem valveOf_worked (restarted door hold : Bool) (t : Nat) (z : Zone) :
    ZoneWorked z (valveOf restarted door hold t z) := by
  unfold valveOf
  split
  · next hoff => exact ⟨rfl, rfl, fun ⟨_, hi, hf, _⟩ => ⟨Nat.zero_le _, hi, hf, fun _ => ⟨hoff, rfl⟩⟩⟩
  · next hoff =>
    have hfitted : ∀ {P : Prop}, ZoneSound z → z.fit = none → P := fun h hfit => absurd (h.2.2.2 hfit).1 hoff
    split
    · exact ⟨rfl, rfl, fun h => ⟨Nat.zero_le _, h.2.1, h.2.2.1, hfitted h⟩⟩
    · split
      · exact .refl z
      · split
        · exact ⟨rfl, rfl, fun h => ⟨h.2.2.1, h.2.1, h.2.2.1, hfitted h⟩⟩
        · exact ⟨rfl, rfl, fun h => ⟨clampInt_zero_le 1000 _, clampInt_zero_le 256000 _, h.2.2.1, hfitted h⟩⟩

theorem setZone_worked {s : State} {z : Fin 6} {x : Zone} (h : ZoneWorked s.tunnel.zones[z] x) :
    ZonesWorked s (setZone s z x) := by
  intro y
  by_cases hy : y = z
  · subst hy
    have hset : (setZone s y x).tunnel.zones[y] = x := by simp [setZone]
    rwa [hset]
  · have hset : (setZone s z x).tunnel.zones[y] = s.tunnel.zones[y] := by
      simp only [setZone, State.withTunnel_tunnel, Fin.getElem_fin]
      exact Vector.getElem_set_ne _ _ fun e => hy (Fin.ext e.symm)
    rw [hset]
    exact .refl _

theorem updateZones_worked (l : List (Fin 6)) (s : State) : ZonesWorked s (updateZones l s) := by
  induction l generalizing s with
  | nil => exact .of_eq rfl
  | cons z l ih =>
    have hset : ZonesWorked s (setZone s z (zoneUpdate s.tunnel.zones[z] (quantity s (zoneQuantity z))).1) :=
      setZone_worked (zoneUpdate_worked _ _)
    exact (hset.trans (.of_tunnel_eq (by simp))).trans (ih _)

theorem tunnelRegulation_worked (s : State) : ZonesWorked s (tunnelRegulation s) := by
  have hpressure : ZonesWorked (updateZones (List.finRange 6) s) (pressureTest (updateZones (List.finRange 6) s)) :=
    .of_eq (by simp [pressureTest])
  refine ((updateZones_worked _ s).trans hpressure).trans fun z => ?_
  rw [tunnelRegulation, regulateValves_zone]
  exact valveOf_worked _ _ _ _ _

theorem entryMoves_zones (n : Nat) (s : State) : (entryMoves n s).tunnel.zones = s.tunnel.zones := by
  induction n generalizing s with
  | zero => rfl
  | succ n ih =>
    rw [entryMoves]
    split
    · rfl
    · split
      · exact (ih _).trans rfl
      · rfl

theorem entryWork_zones (s : State) : (entryWork s).tunnel.zones = s.tunnel.zones := by
  unfold entryWork
  split
  · rfl
  · exact entryMoves_zones _ _

theorem accountAll_zones (n : Nat) (l : List (Fin 64)) (s : State) :
    (accountAll n l s).tunnel.zones = s.tunnel.zones := by
  induction l generalizing s with
  | nil => rfl
  | cons i l ih =>
    refine (ih _).trans ?_
    unfold accountRecord
    dsimp only
    split
    · simp [addExposure]
    · rfl

theorem tunnelAccounting_zones (n : Nat) (s : State) : (tunnelAccounting n s).tunnel.zones = s.tunnel.zones := by
  unfold tunnelAccounting
  split
  · rfl
  · exact accountAll_zones _ _ _

theorem beforeDecision_worked (ts : Timestamp) (s : State) : ZonesWorked s (beforeDecision ts s) := by
  have hentry : ZonesWorked s (entryWork (foldWork s)) := .of_eq ((entryWork_zones _).trans (by simp))
  exact (hentry.trans (tunnelRegulation_worked _)).trans (.of_tunnel_eq (by simp [beforeDecision]))

theorem lineWork_zones (n r : Nat) (x : SpliceState) (ts : Timestamp) (s : State) :
    (lineWork n r x ts s).tunnel.zones = s.tunnel.zones := by
  have h : (lineWork n r x ts s).tunnel = (tunnelAccounting n s).tunnel := by simp [lineWork]
  rw [h, tunnelAccounting_zones]

theorem activeWork_zones (n : Nat) (ts : Timestamp) (s : State) :
    (activeWork n ts s).tunnel.zones = (beforeDecision ts s).tunnel.zones := by
  have hline : (activeWork n ts s).tunnel =
      (lineWork n (passedRatio s) (decidedSplice ts s) ts (webWork ts s)).tunnel := by simp [activeWork]
  have hweb : (webWork ts s).tunnel = (beforeDecision ts s).tunnel := by simp [webWork]
  rw [hline, lineWork_zones, hweb]

theorem activeWork_worked (n : Nat) (ts : Timestamp) (s : State) : ZonesWorked s (activeWork n ts s) :=
  (beforeDecision_worked ts s).trans (.of_eq (activeWork_zones n ts s))

theorem arrivalWork_worked (n : Nat) (f : Frame) (s : State) : ZonesWorked s (arrivalWork n f s) := by
  unfold arrivalWork
  dsimp only
  have hsample : ZonesWorked s (sampleWork f s) := .of_tunnel_eq (by simp)
  split
  · exact hsample.trans (activeWork_worked _ _ _)
  · exact hsample.trans (.of_tunnel_eq (by simp))

theorem arrival_worked (f : Frame) (s : State) : ZonesWorked s (arrival f s) := by
  have hcounted : ZonesWorked s (countArrival (examineGood f s)) := .of_tunnel_eq (by simp)
  exact hcounted.trans (arrivalWork_worked _ _ _)

theorem frameWork_worked (f : Frame) (s : State) : ZonesWorked s (frameWork f s) := by
  unfold frameWork
  split
  · exact .of_tunnel_eq (by simp)
  · split
    · exact arrival_worked f s
    · exact .of_tunnel_eq (by simp)

/-! ### What a frame's work keeps of the groups of lines -/

/-- The setup of the four groups stands: only the latch-held flags may change. -/
def GroupsKept (s t : State) : Prop :=
  ∀ g : Fin 4, t.lines.groups[g].locked = s.lines.groups[g].locked ∧ t.lines.groups[g].inhibit = s.lines.groups[g].inhibit

theorem GroupsKept.of_eq {s t : State} (h : t.lines.groups = s.lines.groups) : GroupsKept s t := fun g => by
  rw [h]
  exact ⟨rfl, rfl⟩

theorem GroupsKept.trans {s t u : State} (h : GroupsKept s t) (h' : GroupsKept t u) : GroupsKept s u :=
  fun g => ⟨(h' g).1.trans (h g).1, (h' g).2.trans (h g).2⟩

theorem latchLines_groups (s : State) : GroupsKept s (latchLines s) := fun g => by
  simp [latchLines]

theorem doorTest_groups (s : State) : (doorTest s).lines.groups = s.lines.groups := by
  unfold doorTest
  split
  · rfl
  · simp

theorem sampleWork_groups (f : Frame) (s : State) : GroupsKept s (sampleWork f s) := by
  have h : (sampleWork f s).lines = (doorTest (latchLines s)).lines := by simp [sampleWork]
  exact (latchLines_groups s).trans (.of_eq ((congrArg FieldLines.groups h).trans (doorTest_groups _)))

theorem arrivalWork_lines (n : Nat) (f : Frame) (s : State) : (arrivalWork n f s).lines = (sampleWork f s).lines := by
  unfold arrivalWork
  dsimp only
  split <;> simp

theorem arrival_groups (f : Frame) (s : State) : GroupsKept s (arrival f s) := by
  have hcounted : GroupsKept s (countArrival (examineGood f s)) := .of_eq (by simp)
  have hwork : (arrival f s).lines = _ := arrivalWork_lines (frameInterval s.port f) f _
  exact (hcounted.trans (sampleWork_groups f _)).trans (.of_eq (congrArg FieldLines.groups hwork))

theorem frameWork_groups (f : Frame) (s : State) : GroupsKept s (frameWork f s) := by
  unfold frameWork
  split
  · exact .of_eq (by simp)
  · split
    · exact arrival_groups f s
    · exact .of_eq (by simp)

/-! ### Every setting -/

theorem sameSettings_trans {s t u : State} (h : SameSettings s t) (h' : SameSettings t u) : SameSettings s u := by
  obtain ⟨a1, a2, a3, a4, a5, a6, a7, a8, a9, a10, a11, a12, a13, a14, a15, a16, a17, a18, a19, a20⟩ := h
  obtain ⟨b1, b2, b3, b4, b5, b6, b7, b8, b9, b10, b11, b12, b13, b14, b15, b16, b17, b18, b19, b20⟩ := h'
  exact ⟨b1.trans a1, b2.trans a2, b3.trans a3, fun g => ⟨(b4 g).1.trans (a4 g).1, (b4 g).2.trans (a4 g).2⟩, b5.trans a5,
    b6.trans a6, b7.trans a7, fun z => ⟨(b8 z).1.trans (a8 z).1, (b8 z).2.trans (a8 z).2⟩, b9.trans a9, b10.trans a10,
    b11.trans a11, b12.trans a12, b13.trans a13, b14.trans a14, b15.trans a15, b16.trans a16, b17.trans a17,
    b18.trans a18, b19.trans a19, b20.trans a20⟩

theorem takeIn_sameSettings (rx : Reception) (s : State) : SameSettings s (takeIn rx s) :=
  ⟨rfl, rfl, rfl, fun _ => ⟨rfl, rfl⟩, rfl, rfl, rfl, fun _ => ⟨rfl, rfl⟩, rfl, rfl, rfl, rfl, rfl, rfl, rfl, rfl, rfl,
    rfl, rfl, rfl⟩

theorem expireSilence_sameSettings (s : State) : SameSettings s (expireSilence s) := by
  have hlines : (expireSilence s).lines = s.lines := by simp
  have htunnel : (expireSilence s).tunnel = s.tunnel := by simp
  unfold SameSettings
  rw [hlines, htunnel]
  simp

theorem frameWork_sameSettings (f : Frame) (s : State) : SameSettings s (frameWork f s) := by
  refine ⟨?_, ?_, ?_, frameWork_groups f s, ?_, ?_, ?_, fun z => ⟨(frameWork_worked f s z).fit, (frameWork_worked f s z).settings⟩,
    ?_, ?_, ?_, ?_, ?_, ?_, ?_, ?_, ?_, ?_, ?_, ?_⟩ <;> simp

theorem atReception_sameSettings (rx : Reception) (s : State) : SameSettings s (atReception rx s) := by
  unfold atReception
  dsimp only
  split
  · exact sameSettings_trans (takeIn_sameSettings rx s) (expireSilence_sameSettings _)
  · exact takeIn_sameSettings rx s

/-! ### The handling of a frame -/

/-- A frame's finding depends on the frame and the slot-area length alone (R3). -/
theorem frameFinding_congr {p q : RingPort} (f : Frame) (h : q.slotLength = p.slotLength) :
    frameFinding q f = frameFinding p f := by
  unfold frameFinding slotLengthPasses
  rw [h]

theorem atReception_finding (rx : Reception) (s : State) :
    frameFinding (atReception rx s).port rx.frame = frameFinding s.port rx.frame := by
  obtain ⟨-, -, -, -, -, -, -, -, -, -, -, -, -, -, -, -, -, -, -, hlength⟩ := atReception_sameSettings rx s
  exact frameFinding_congr _ hlength

theorem atReception_address (rx : Reception) (s : State) : (atReception rx s).port.address = s.port.address := by
  obtain ⟨-, -, -, -, -, -, -, -, -, -, -, -, -, -, haddress, -⟩ := atReception_sameSettings rx s
  exact haddress

/-- A good frame taken in a serving port state: the arrival's work and the end of the frame. -/
theorem handleFrame_arrival {f : Frame} {s : State} (hgood : frameFinding s.port f = none)
    (hserves : portServes s.port.state = true) : handleFrame f s = finishArrival f (arrival f s) := by
  rw [handleFrame, hgood]
  exact if_pos hserves

theorem handleFrame_outside {f : Frame} {s : State} (hgood : frameFinding s.port f = none)
    (hserves : portServes s.port.state = false) : handleFrame f s = (goodOutside f s).withDownstream (some f) := by
  rw [handleFrame, hgood]
  exact if_neg (by simp [hserves])

theorem handleFrame_bad {f : Frame} {s : State} {code : ErrorCode} (hbad : frameFinding s.port f = some code) :
    handleFrame f s = (badFrame code s).withDownstream (some (forwardedBad s.port.state f)) := by
  rw [handleFrame, hbad]

/-- Without a request the frame's handling is its work and the frame that goes downstream (R16). -/
theorem handleFrame_noRequest {f : Frame} {s : State} (h : addressed s.port f = false) :
    ∃ d, handleFrame f s = (frameWork f s).withDownstream (some d) := by
  unfold handleFrame frameWork
  split
  · exact ⟨_, rfl⟩
  · split
    · have haddressed : addressed (arrival f s).port f = addressed s.port f := by simp [addressed]
      rw [finishArrival, haddressed, h]
      exact ⟨_, rfl⟩
    · exact ⟨_, rfl⟩

theorem addressed_of_noRequest {rx : Reception} {s : State} (h : NoRequest rx s) {p : RingPort}
    (hp : p.address = s.port.address) : addressed p rx.frame = false := by
  unfold addressed
  rw [hp]
  rcases h with h | h
  · simp [h]
  · simp [h]

theorem atReception_reply (rx : Reception) (s : State) : (atReception rx s).reply = none := by
  unfold atReception
  dsimp only
  split
  · rw [(expireSilence_frame _).2.2.2.2.2.2.1]
    rfl
  · rfl

theorem atReception_pending (rx : Reception) (s : State) : (atReception rx s).pending = s.pending := by
  unfold atReception
  dsimp only
  split <;> simp

/-- Settles O20: the reception is its work, and every part of the work keeps the settings. -/
theorem frameWithoutRequestKeepsSettings : Obligations.FrameWithoutRequestKeepsSettings := by
  intro rx s hno
  obtain ⟨d, hd⟩ := handleFrame_noRequest (addressed_of_noRequest hno (atReception_address rx s))
  refine ⟨receive rx s, rfl, ?_⟩
  rw [receive, hd]
  obtain ⟨-, -, hreply, -, -, hpending⟩ := frameWork_frame rx.frame (atReception rx s)
  exact ⟨sameSettings_trans (atReception_sameSettings rx s) (frameWork_sameSettings rx.frame _), hreply.trans (atReception_reply rx s),
    hpending.trans (atReception_pending rx s)⟩

end Sys2Proof.Proofs

/-! No part of a frame's work takes a pending notice away. -/

namespace Sys2Proof.Proofs

open Machine Statements Safety

/-- Every notice pending in `s` is pending in `t`. -/
structure NoticesGrow (s t : State) : Prop where
  keeps : ∀ i : Fin 40, isPending s.notices i = true → isPending t.notices i = true

theorem NoticesGrow.of_eq {s t : State} (h : t.notices = s.notices) : NoticesGrow s t := ⟨fun i hi => by rwa [h]⟩

theorem NoticesGrow.refl (s : State) : NoticesGrow s s := .of_eq rfl

theorem NoticesGrow.trans {s t u : State} (h : NoticesGrow s t) (h' : NoticesGrow t u) : NoticesGrow s u :=
  ⟨fun i hi => h'.keeps i (h.keeps i hi)⟩

/-- Followed by work that leaves the notice block as it was. -/
theorem NoticesGrow.and_eq {s t u : State} (h : NoticesGrow s t) (h' : u.notices = t.notices) : NoticesGrow s u :=
  h.trans (.of_eq h')

/-- Preceded by work that leaves the notice block as it was. -/
theorem NoticesGrow.after_eq {s t u : State} (h : NoticesGrow t u) (h' : t.notices = s.notices) : NoticesGrow s u :=
  (NoticesGrow.of_eq h').trans h

theorem raiseNotice_grows (n : Notice) (s : State) : NoticesGrow s (raiseNotice n s) := ⟨raiseNotice_keeps n s⟩

theorem raiseAll_grows (ns : List Notice) (s : State) : NoticesGrow s (raiseAll ns s) := ⟨raiseAll_keeps ns s⟩

theorem raiseWhen_grows (c : Bool) (n : Notice) (s : State) : NoticesGrow s (raiseWhen c n s) := by
  unfold raiseWhen
  split
  · exact raiseNotice_grows n s
  · exact .of_eq rfl

/-- A notice among those raised is pending when its route is enabled. -/
theorem raiseAll_pending {n : Notice} {ns : List Notice} (h : n ∈ ns) (s : State)
    (he : s.notices.routes[noticeIndex n].enabled = true) : isPending (raiseAll ns s).notices (noticeIndex n) = true := by
  induction ns generalizing s with
  | nil => cases h
  | cons m ns ih =>
    rcases List.mem_cons.mp h with rfl | h
    · exact (raiseAll_grows ns _).keeps _ (raiseNotice_pending n s he)
    · exact ih h _ (by rw [(raiseNotice_settings m s).2.2.2.2.2.2.1]; exact he)

/-! ### The port and the samples -/

theorem examineGood_grows (f : Frame) (s : State) : NoticesGrow s (examineGood f s) := by
  unfold examineGood
  dsimp only
  split
  · exact .of_eq rfl
  · split
    · exact (raiseNotice_grows _ _).after_eq rfl
    · split
      · exact (raiseNotice_grows _ _).after_eq rfl
      · exact .of_eq rfl

theorem countBad_grows (c : ErrorCode) (s : State) : NoticesGrow s (countBad c s) :=
  (raiseNotice_grows _ _).after_eq rfl

theorem countBadRun_grows (s : State) : NoticesGrow s (countBadRun s) := by
  unfold countBadRun
  split
  · exact .of_eq rfl
  · exact .of_eq rfl
  · exact .of_eq rfl
  all_goals
    dsimp only
    split
    · exact (raiseNotice_grows _ _).after_eq rfl
    · exact .of_eq rfl

theorem ageAll_grows (s : State) : NoticesGrow s (ageAll s) := (raiseAll_grows _ _).after_eq rfl

theorem convertArrival_grows (b : List Byte) (s : State) : NoticesGrow s (convertArrival b s) :=
  (raiseAll_grows _ _).after_eq rfl

theorem doorTest_grows (s : State) : NoticesGrow s (doorTest s) := by
  unfold doorTest
  split
  · exact .of_eq rfl
  · exact (raiseWhen_grows _ _ _).after_eq rfl

theorem sampleWork_grows (f : Frame) (s : State) : NoticesGrow s (sampleWork f s) :=
  (((doorTest_grows (latchLines s)).after_eq (by simp)).trans (convertArrival_grows f.slots _)).and_eq
    (by simp [sampleWork])

/-! ### The knife and the tunnel -/

theorem passEntry_grows (e : StrokeEntry) (rest : List StrokeEntry) (s : State) :
    NoticesGrow s (passEntry e rest s) := by
  have hissue : ∀ t, (issueRequests t).notices = t.notices := fun t => by simp
  unfold passEntry
  dsimp only
  split
  · refine NoticesGrow.and_eq ?_ (hissue _)
    exact (raiseNotice_grows _ _).after_eq rfl
  · exact .of_eq (hissue _)

theorem passing_grows (n : Nat) (s : State) : NoticesGrow s (passing n s) := by
  induction n generalizing s with
  | zero => exact .of_eq rfl
  | succ n ih =>
    rw [passing]
    split
    · exact .of_eq rfl
    · split
      · exact (passEntry_grows _ _ s).trans (ih _)
      · exact .of_eq rfl

theorem foldWork_grows (s : State) : NoticesGrow s (foldWork s) := by
  unfold foldWork
  split
  · exact .of_eq rfl
  · exact (passing_grows _ s).and_eq rfl

theorem updateZones_grows (l : List (Fin 6)) (s : State) : NoticesGrow s (updateZones l s) := by
  induction l generalizing s with
  | nil => exact .of_eq rfl
  | cons z l ih =>
    refine NoticesGrow.trans ?_ (ih _)
    exact (raiseAll_grows _ _).after_eq rfl

theorem tunnelRegulation_grows (s : State) : NoticesGrow s (tunnelRegulation s) := by
  have hpressure : ∀ t, NoticesGrow t (pressureTest t) := fun t => (raiseWhen_grows _ _ _).after_eq rfl
  have hvalves : ∀ t, (regulateValves t).notices = t.notices := fun t => by simp
  exact ((updateZones_grows _ s).trans (hpressure _)).and_eq (hvalves _)

/-! ### The roll change -/

theorem failMatch_grows (s : State) : NoticesGrow s (failMatch s) := by
  unfold failMatch
  dsimp only
  split
  · exact (raiseNotice_grows _ _).after_eq rfl
  · exact ((raiseNotice_grows _ _).trans (raiseNotice_grows _ _)).after_eq rfl

theorem matchingWork_grows (ts : Timestamp) (s : State) : NoticesGrow s (matchingWork ts s) := by
  unfold matchingWork
  dsimp only
  generalize (if speedMatches s then s.roll.matchCount + 1 else 0) = n
  split
  · exact .of_eq rfl
  · split
    · exact (failMatch_grows _).after_eq rfl
    · exact .of_eq rfl

theorem spliceWork_grows (ts : Timestamp) (s : State) : NoticesGrow s (spliceWork ts s) := by
  unfold spliceWork
  split
  · exact matchingWork_grows ts s
  · unfold pasteWork
    split
    · exact .of_eq (by simp)
    · split
      · exact (raiseNotice_grows _ _).after_eq rfl
      · exact .of_eq rfl
  · unfold clearWork
    split
    · exact (raiseNotice_grows _ _).after_eq rfl
    · exact .of_eq rfl
  · exact .of_eq (by simp)
  all_goals exact .of_eq rfl

theorem armingTests_grows (ts : Timestamp) (s : State) : NoticesGrow s (armingTests ts s) := by
  unfold armingTests
  split
  · split
    · unfold armingOn
      dsimp only
      split
      · exact (raiseNotice_grows _ _).after_eq rfl
      · split
        · exact (raiseNotice_grows _ _).after_eq rfl
        · exact .of_eq rfl
    · exact .of_eq rfl
  · exact .of_eq rfl

theorem rollWork_grows (ts : Timestamp) (s : State) : NoticesGrow s (rollWork ts s) := by
  unfold rollWork
  dsimp only
  have hmeasured : NoticesGrow s (runoutTest (measureRolls (freeExpired .b (freeExpired .a s)))) :=
    (raiseWhen_grows _ _ _).after_eq (by simp)
  have hspliced := hmeasured.trans (spliceWork_grows ts _)
  split
  · exact (hspliced.trans (armingTests_grows ts _)).and_eq (by simp)
  · exact hspliced.and_eq (by simp)

theorem beforeDecision_grows (ts : Timestamp) (s : State) : NoticesGrow s (beforeDecision ts s) :=
  (((foldWork_grows s).and_eq (entryWork_frame _).2.2.2.2.2.2.2.2.2.1).trans (tunnelRegulation_grows _)).trans
    (rollWork_grows ts _)

/-! ### The sequencer -/

theorem raiseWhileRunning_grows (ns : List Notice) (s : State) : NoticesGrow s (raiseWhileRunning ns s) := by
  induction ns generalizing s with
  | nil => exact .of_eq rfl
  | cons n ns ih =>
    rw [raiseWhileRunning]
    split
    · exact (raiseNotice_grows n s).trans (ih _)
    · exact .of_eq rfl

theorem decideForGap_grows (ts : Timestamp) (s : State) : NoticesGrow s (decideForGap ts s) := by
  unfold decideForGap
  dsimp only
  have hraised : NoticesGrow s (raiseWhileRunning (panelDecision s).2.2 (panelDecision s).1) :=
    (raiseWhileRunning_grows _ _).after_eq (by simp)
  split
  · exact hraised.trans ((raiseAll_grows _ _).after_eq (by simp))
  · exact hraised

theorem sequencerOutcome_grows (ts : Timestamp) (s : State) : NoticesGrow s (sequencerOutcome ts s).1 := by
  unfold sequencerOutcome
  split
  · exact .of_eq rfl
  · split
    · exact .of_eq rfl
    · unfold sequencerOn
      dsimp only
      split
      · split
        · exact .of_eq (by simp)
        · exact .of_eq rfl
      · split
        · exact decideForGap_grows ts s
        · exact .of_eq rfl
      · split
        · exact .of_eq (by simp)
        · exact .of_eq rfl
      · exact .of_eq rfl

theorem webWork_grows (ts : Timestamp) (s : State) : NoticesGrow s (webWork ts s) :=
  ((beforeDecision_grows ts s).trans (sequencerOutcome_grows ts _)).trans (raiseAll_grows _ _)

/-! ### The line, the governor and the take-off -/

theorem accountAll_grows (n : Nat) (l : List (Fin 64)) (s : State) : NoticesGrow s (accountAll n l s) := by
  induction l generalizing s with
  | nil => exact .of_eq rfl
  | cons i l ih =>
    have hrecord : NoticesGrow s (accountRecord n i s) := by
      unfold accountRecord
      dsimp only
      split
      · exact (raiseWhen_grows _ _ _).after_eq rfl
      · exact .of_eq rfl
    exact hrecord.trans (ih _)

theorem tunnelAccounting_grows (n : Nat) (s : State) : NoticesGrow s (tunnelAccounting n s) := by
  unfold tunnelAccounting
  split
  · exact .of_eq rfl
  · exact accountAll_grows _ _ s

theorem compose_grows (s : State) : NoticesGrow s (compose s) := by
  unfold compose
  split
  · exact (raiseAll_grows _ _).after_eq rfl
  · exact .of_eq rfl

theorem governorStep_grows (r : Nat) (x : SpliceState) (s : State) : NoticesGrow s (governorStep r x s) := by
  have hramp : ∀ t, (rampStep t).notices = t.notices := fun t => by simp
  have hinfeed : ∀ t, NoticesGrow t (infeedStep r t) := fun t => (raiseWhen_grows _ _ _).after_eq rfl
  exact (((compose_grows s).and_eq (hramp _)).trans (hinfeed _)).and_eq rfl

theorem stopTest_grows (s : State) : NoticesGrow s (stopTest s) := by
  unfold stopTest
  split
  · exact (raiseNotice_grows _ _).after_eq (by simp)
  · exact .of_eq rfl

theorem lineWork_grows (n r : Nat) (x : SpliceState) (ts : Timestamp) (s : State) :
    NoticesGrow s (lineWork n r x ts s) :=
  ((((tunnelAccounting_grows n s).and_eq (drainTests_frame _).2.2.2.2.2.2.2.2.2.2.1).trans (governorStep_grows r x _)).trans
    (stopTest_grows _)).and_eq (by simp [lineWork])

theorem dwellChecks_grows (i : Fin 64) (s : State) : NoticesGrow s (dwellChecks i s) := by
  unfold dwellChecks
  dsimp only
  split
  · split
    · refine NoticesGrow.trans ?_ (raiseWhen_grows _ _ _)
      exact (raiseWhen_grows _ _ _).after_eq rfl
    · exact .of_eq rfl
  · exact .of_eq rfl

theorem exitMoves_grows (ts : Timestamp) (n : Nat) (s : State) : NoticesGrow s (exitMoves ts n s) := by
  induction n generalizing s with
  | zero => exact .of_eq rfl
  | succ n ih =>
    rw [exitMoves]
    split
    · exact .of_eq rfl
    · split
      · next i rest _ _ =>
        have hstamp : (stampRecord ts i s).notices = s.notices := by simp
        have hleft : NoticesGrow (stampRecord ts i s) (leaveTunnel i rest (stampRecord ts i s)) :=
          (dwellChecks_grows i _).and_eq rfl
        exact (hleft.after_eq hstamp).trans (ih _)
      · exact .of_eq rfl

theorem exitWork_grows (ts : Timestamp) (s : State) : NoticesGrow s (exitWork ts s) := by
  unfold exitWork
  split
  · exact .of_eq rfl
  · exact exitMoves_grows _ _ s

theorem cuts_grows (n : Nat) (s : State) : NoticesGrow s (cuts n s) := by
  induction n generalizing s with
  | zero => exact .of_eq rfl
  | succ n ih =>
    rw [cuts]
    split
    · exact .of_eq rfl
    · split
      · refine NoticesGrow.trans ?_ (ih _)
        exact (raiseAll_grows _ _).after_eq rfl
      · exact .of_eq rfl

theorem takeOffWork_grows (s : State) : NoticesGrow s (takeOffWork s) := by
  unfold takeOffWork
  refine NoticesGrow.and_eq ?_ (formCutEntry_frame _).2.2.2.2.2.2.2.2.2.1
  split
  · exact .of_eq rfl
  · exact cuts_grows _ s

theorem activeWork_grows (n : Nat) (ts : Timestamp) (s : State) : NoticesGrow s (activeWork n ts s) :=
  (((webWork_grows ts s).trans (lineWork_grows n _ _ ts _)).trans (exitWork_grows ts _)).trans (takeOffWork_grows _)

theorem arrivalWork_grows (n : Nat) (f : Frame) (s : State) : NoticesGrow s (arrivalWork n f s) := by
  unfold arrivalWork
  dsimp only
  split
  · exact (sampleWork_grows f s).trans (activeWork_grows _ _ _)
  · exact (sampleWork_grows f s).and_eq (by simp)

end Sys2Proof.Proofs

/-! Frames that move nothing: bad frames (O17), good frames outside LISTEN and ACTIVE (O18), the events of the counts and
the faults (O25, O26), and the ageing of quantities (O27). -/

namespace Sys2Proof.Proofs

open Machine Statements Safety

/-! ### Ageing -/

theorem ageQuantity_fst (i : Fin 16) (e : ConversionEntry) (q : Quantity) : (ageQuantity i e q).1 = aged e q := by
  unfold ageQuantity aged saturate
  cases hl : q.lost
  · by_cases ha : e.staleLimit < min (q.age + 1) 65535 <;> simp [ha]
  · simp

/-- A quantity that passes its stale limit gives the notice of its loss (R27). -/
theorem ageQuantity_notice {i : Fin 16} {e : ConversionEntry} {q : Quantity} (hl : q.lost = false)
    (ha : e.staleLimit < min (q.age + 1) 65535) : (ageQuantity i e q).2 = (lossNotice i).toList := by
  simp [ageQuantity, saturate, hl, ha]

theorem ageAll_quantity (s : State) (q : Fin 16) :
    (ageAll s).converter.quantities[q] = aged s.converter.entries[q] s.converter.quantities[q] := by
  rw [ageAll, withQuantities_quantity, ageQuantity_fst]
  rfl

/-- A notice that a conversion gives is pending after it when its route is enabled. -/
theorem withQuantities_pending {f : Fin 16 → Quantity × List Notice} {q : Fin 16} {n : Notice} (s : State)
    (h : n ∈ (f q).2) (he : s.notices.routes[noticeIndex n].enabled = true) :
    isPending (withQuantities f s).notices (noticeIndex n) = true :=
  raiseAll_pending (List.mem_flatMap.mpr ⟨q, List.mem_finRange q, h⟩) _ he

/-! ### Bad frames (R3, R5, R7 to R9) -/

/-- The port after the counters of a bad frame. -/
def badCounted (code : ErrorCode) (p : RingPort) : RingPort :=
  { p with lastError := code, badFrames := min (p.badFrames + 1) counterMax }

theorem countBad_port (code : ErrorCode) (s : State) : (countBad code s).port = badCounted code s.port :=
  (raiseNotice_frame .frameError _).1

theorem enterFault_port (s : State) :
    (enterFault s).port = { s.port with state := .fault, recoveryCount := 0, deadline := none } :=
  (raiseNotice_frame .ringFault _).1

/-- The port after a bad frame's count in the port's state. -/
def badRunCounted (p : RingPort) : RingPort :=
  match p.state with
  | .offline => p
  | .syncing => { p with syncCount := 0 }
  | .fault => { p with recoveryCount := 0 }
  | .listen | .active =>
    if p.runCount < 2 then { p with runCount := p.runCount + 1 }
    else { p with runCount := 3, state := .fault, recoveryCount := 0, deadline := none }

/-- In LISTEN and ACTIVE a bad frame counts, and the third in a row brings FAULT. -/
theorem countBadRun_serving {s : State} (h : Served s) : countBadRun s =
    if s.port.runCount < 2 then s.withPort { s.port with runCount := s.port.runCount + 1 }
    else enterFault (s.withPort { s.port with runCount := 3 }) := by
  have hserving : countBadRun s =
      if (s.withPort { s.port with runCount := saturate 3 s.port.runCount 1 }).port.runCount = 3 then
        enterFault (s.withPort { s.port with runCount := saturate 3 s.port.runCount 1 })
      else s.withPort { s.port with runCount := saturate 3 s.port.runCount 1 } := by
    unfold countBadRun
    rcases h with h | h <;> rw [h]
  rw [hserving, State.withPort_port]
  by_cases hrun : s.port.runCount < 2
  · have hcount : saturate 3 s.port.runCount 1 = s.port.runCount + 1 := Nat.min_eq_left (by omega)
    rw [if_pos hrun, hcount, if_neg (by simp; omega)]
  · have hcount : saturate 3 s.port.runCount 1 = 3 := Nat.min_eq_right (by omega)
    rw [if_neg hrun, hcount, if_pos rfl]

theorem badRunCounted_below {p : RingPort} (h : p.state = .listen ∨ p.state = .active) (hrun : p.runCount < 2) :
    badRunCounted p = { p with runCount := p.runCount + 1 } := by
  unfold badRunCounted
  rcases h with h | h <;> rw [h] <;> exact if_pos hrun

theorem badRunCounted_above {p : RingPort} (h : p.state = .listen ∨ p.state = .active) (hrun : 2 ≤ p.runCount) :
    badRunCounted p = { p with runCount := 3, state := .fault, recoveryCount := 0, deadline := none } := by
  unfold badRunCounted
  rcases h with h | h <;> rw [h] <;> exact if_neg (by omega)

theorem countBadRun_port (s : State) : (countBadRun s).port = badRunCounted s.port := by
  by_cases hs : Served s
  · rw [countBadRun_serving hs]
    by_cases hrun : s.port.runCount < 2
    · rw [if_pos hrun, badRunCounted_below hs hrun]
      rfl
    · rw [if_neg hrun, badRunCounted_above hs (Nat.not_lt.mp hrun)]
      exact enterFault_port _
  · unfold countBadRun badRunCounted
    split
    · next h => simp only [h]
    · next h => simp only [h, State.withPort_port]
    · next h => simp only [h, State.withPort_port]
    · next h => exact absurd (.inl h) hs
    · next h => exact absurd (.inr h) hs

theorem badFrame_port (code : ErrorCode) (s : State) : (badFrame code s).port = badRunCounted (badCounted code s.port) := by
  rw [badFrame, countBadRun_port, (ageAll_frame _).1, countBad_port]

theorem badFrame_quantity (code : ErrorCode) (s : State) (q : Fin 16) :
    (badFrame code s).converter.quantities[q] = aged s.converter.entries[q] s.converter.quantities[q] := by
  have h : (badFrame code s).converter = (ageAll (countBad code s)).converter := by simp [badFrame]
  rw [h, ageAll_quantity, (countBad_frame code s).1]

theorem badFrame_frameError (code : ErrorCode) (s : State) : PendingIfEnabled .frameError s (badFrame code s) := by
  intro he
  have hcounted : isPending (countBad code s).notices (noticeIndex .frameError) = true := raiseNotice_pending _ _ he
  exact ((ageAll_grows _).trans (countBadRun_grows _)).keeps _ hcounted

theorem badFrame_ringFault {code : ErrorCode} {s : State} (hs : Served s) (hrun : 2 ≤ s.port.runCount) :
    PendingIfEnabled .ringFault s (badFrame code s) := by
  intro he
  have hport : (ageAll (countBad code s)).port = badCounted code s.port := by
    rw [(ageAll_frame _).1, countBad_port]
  have hroutes : (ageAll (countBad code s)).notices.routes = s.notices.routes := by simp
  have hserved : Served (ageAll (countBad code s)) := by
    unfold Served
    rw [hport]
    exact hs
  rw [badFrame, countBadRun_serving hserved, hport, if_neg (c := (badCounted code s.port).runCount < 2) (Nat.not_lt.mpr hrun)]
  exact raiseNotice_pending _ _ (by simpa [hroutes] using he)

theorem badFrame_sameBelt (code : ErrorCode) (s : State) : SameBelt s (badFrame code s) := by
  unfold SameBelt
  simp

theorem takeIn_sameBelt (rx : Reception) (s : State) : SameBelt s (takeIn rx s) := by
  unfold SameBelt
  simp

theorem sameBelt_trans {s t u : State} (h : SameBelt s t) (h' : SameBelt t u) : SameBelt s u := by
  obtain ⟨a1, a2, a3, a4, a5, a6, a7, a8⟩ := h
  obtain ⟨b1, b2, b3, b4, b5, b6, b7, b8⟩ := h'
  exact ⟨b1.trans a1, b2.trans a2, b3.trans a3, b4.trans a4, b5.trans a5, b6.trans a6, b7.trans a7, b8.trans a8⟩

theorem frameWork_bad {f : Frame} {s : State} {code : ErrorCode} (h : frameFinding s.port f = some code) :
    frameWork f s = badFrame code s := by
  rw [frameWork, h]

theorem forwardedBad_eq (p : PortState) (f : Frame) :
    forwardedBad p f = if p = .offline ∨ p = .fault then f else damaged f := by
  cases p <;> rfl

theorem badRunCounted_fields (p : RingPort) : (badRunCounted p).lastError = p.lastError
    ∧ (badRunCounted p).badFrames = p.badFrames ∧ (badRunCounted p).missedCycles = p.missedCycles
    ∧ (badRunCounted p).previous = p.previous := by
  unfold badRunCounted
  split
  · exact ⟨rfl, rfl, rfl, rfl⟩
  · exact ⟨rfl, rfl, rfl, rfl⟩
  · exact ⟨rfl, rfl, rfl, rfl⟩
  all_goals split <;> exact ⟨rfl, rfl, rfl, rfl⟩

/-- The reception of a bad frame taken in time. -/
theorem receive_bad {rx : Reception} {s : State} {code : ErrorCode} (htime : TakenInTime rx s)
    (hbad : frameFinding s.port rx.frame = some code) : receive rx s =
      (badFrame code (takeIn rx s)).withDownstream (some (forwardedBad s.port.state rx.frame)) := by
  rw [receive, atReception_in_time htime, handleFrame_bad (s := takeIn rx s) hbad]
  rfl

/-- Settles O17: the counters, the ageing and the count of the port's state, one after another. -/
theorem badFrameIsCountedAndPassedOn : Obligations.BadFrameIsCountedAndPassedOn := by
  intro rx s code htime hbad
  have hport : (badFrame code (takeIn rx s)).port = badRunCounted (badCounted code s.port) := badFrame_port _ _
  obtain ⟨herror, hframes, hmissed, hprevious⟩ := badRunCounted_fields (badCounted code s.port)
  obtain ⟨hlines, -, -, -, htimer, hreply, -⟩ := badFrame_frame code (takeIn rx s)
  have hsettings := frameWork_sameSettings rx.frame (takeIn rx s)
  rw [frameWork_bad (s := takeIn rx s) hbad] at hsettings
  have hage := badFrame_quantity code (takeIn rx s)
  have hframeError : PendingIfEnabled .frameError s (badFrame code (takeIn rx s)) :=
    badFrame_frameError code (takeIn rx s)
  have hringFault : Served s → 2 ≤ s.port.runCount → PendingIfEnabled .ringFault s (badFrame code (takeIn rx s)) :=
    badFrame_ringFault (s := takeIn rx s)
  have hbelt := sameBelt_trans (takeIn_sameBelt rx s) (badFrame_sameBelt code (takeIn rx s))
  refine ⟨receive rx s, rfl, ?_⟩
  rw [receive_bad htime hbad]
  generalize badFrame code (takeIn rx s) = w at *
  simp only [State.withDownstream_port, State.withDownstream_downstream, State.withDownstream_reply,
    State.withDownstream_timer, State.withDownstream_lines, State.withDownstream_converter, hport, hlines]
  refine ⟨herror, hframes, hmissed, hprevious, congrArg some (forwardedBad_eq _ _), hreply, htimer, rfl,
    hage, hframeError, sameSettings_trans (takeIn_sameSettings rx s) hsettings, hbelt, fun h => ?_, fun h => ?_,
    fun h => ?_, fun hs hrun => ?_, fun hs hrun => ⟨?_, hringFault hs hrun⟩⟩
  · simp [badRunCounted, badCounted, h]
  · simp [badRunCounted, badCounted, h]
  · simp [badRunCounted, badCounted, h]
  · rw [badRunCounted_below (p := badCounted code s.port) hs hrun]
    exact ⟨rfl, rfl, rfl⟩
  · rw [badRunCounted_above (p := badCounted code s.port) hs hrun]

/-! ### The examination of a good frame (R4) -/

theorem examineGood_port (f : Frame) (s : State) : (examineGood f s).port =
    { s.port with previous := some (f.cycle, f.timestamp), lastError := (examined s.port f).1,
                  missedCycles := (examined s.port f).2 } := by
  unfold examineGood examined cycleGap isLate
  dsimp only
  cases s.port.previous with
  | none => rfl
  | some v =>
    dsimp only [Option.map_some]
    split
    · exact (raiseNotice_frame _ _).1
    · unfold distance
      split
      · next h =>
        rw [if_pos (of_decide_eq_true h)]
        exact (raiseNotice_frame _ _).1
      · next h =>
        rw [if_neg (mt decide_eq_true h)]
        rfl

theorem examineGood_missed {f : Frame} {s : State} (h : Missed s.port f) :
    PendingIfEnabled .cycleMissed s (examineGood f s) := by
  intro he
  obtain ⟨v, hv, hmissed⟩ := h
  unfold examineGood cycleGap isLate
  dsimp only
  rw [hv]
  dsimp only [Option.map_some]
  by_cases hgap : (f.cycle - v.1).toNat ≠ 1
  · rw [if_pos hgap]
    exact raiseNotice_pending _ _ he
  · have hlate : decide (3 * s.port.period < 2 * distance f.timestamp v.2) = true :=
      decide_eq_true (hmissed.resolve_left hgap)
    rw [if_neg hgap, if_pos hlate]
    exact raiseNotice_pending _ _ he

/-! ### Good frames outside LISTEN and ACTIVE (R7, R9) -/

theorem not_serves_of_not_served {s : State} (h : ¬Served s) : portServes s.port.state = false := by
  rw [← Bool.not_eq_true, portServes_iff]
  exact h

theorem serves_of_served {s : State} (h : Served s) : portServes s.port.state = true := (portServes_iff _).mpr h

/-- Outside LISTEN and ACTIVE no silence deadline is looked at. -/
theorem atReception_not_served {rx : Reception} {s : State} (h : ¬Served s) : atReception rx s = takeIn rx s := by
  have hover : silenceOver (takeIn rx s) = false := by
    have hport : (takeIn rx s).port = s.port := rfl
    unfold silenceOver
    rw [hport, not_serves_of_not_served h]
    split <;> rfl
  unfold atReception
  simp only [hover]
  rfl

theorem receive_outside {rx : Reception} {s : State} (hs : ¬Served s) (hgood : frameFinding s.port rx.frame = none) :
    receive rx s = (goodOutside rx.frame (takeIn rx s)).withDownstream (some rx.frame) := by
  rw [receive, atReception_not_served hs]
  exact handleFrame_outside (s := takeIn rx s) hgood (not_serves_of_not_served hs)

theorem frameWork_outside {f : Frame} {s : State} (hs : ¬Served s) (hgood : frameFinding s.port f = none) :
    frameWork f s = goodOutside f s := by
  rw [frameWork, hgood]
  exact if_neg (by simp [not_serves_of_not_served hs])

/-- The port as a good frame's count in its state leaves it. -/
def goodCounted (gap deadline : Option Nat) (p : RingPort) : RingPort :=
  match p.state with
  | .offline => { p with state := .syncing, syncCount := 1 }
  | .syncing =>
    if (if gap = some 1 then min (p.syncCount + 1) 8 else 1) = 8 then
      { p with syncCount := 8, state := .listen, runCount := 0, deadline := deadline }
    else { p with syncCount := if gap = some 1 then min (p.syncCount + 1) 8 else 1 }
  | .fault =>
    if min (p.recoveryCount + 1) 64 = 64 then
      { p with recoveryCount := 64, state := .listen, runCount := 0, deadline := deadline }
    else { p with recoveryCount := min (p.recoveryCount + 1) 64 }
  | .listen | .active => p

theorem countGood_port (gap : Option Nat) (s : State) :
    (countGood gap s).port = goodCounted gap (nextDeadline s) s.port := by
  unfold countGood goodCounted saturate
  split
  · next h => simp only [h, State.withPort_port]
  · next h =>
    simp only [h]
    generalize (if gap = some 1 then min (s.port.syncCount + 1) 8 else 1) = n
    by_cases hn : n = 8
    · rw [if_pos hn, if_pos hn, hn]
      rfl
    · rw [if_neg hn, if_neg hn]
      rfl
  · next h =>
    simp only [h, State.withPort_port]
    by_cases hn : min (s.port.recoveryCount + 1) 64 = 64
    · rw [if_pos hn, if_pos hn, hn]
      rfl
    · rw [if_neg hn, if_neg hn]
      rfl
  · next h => simp only [h]
  · next h => simp only [h]

theorem goodOutside_port (f : Frame) (s : State) : (goodOutside f s).port =
    goodCounted (cycleGap s.port f) (some (s.timer + 4 * s.port.period)) (examineGood f s).port := by
  have hport : (ageAll (examineGood f s)).port = (examineGood f s).port := (ageAll_frame _).1
  have htimer : (ageAll (examineGood f s)).timer = s.timer := by simp
  have hperiod : (examineGood f s).port.period = s.port.period := by simp
  rw [goodOutside, countGood_port, nextDeadline, hport, htimer, hperiod]

theorem goodOutside_quantity (f : Frame) (s : State) (q : Fin 16) :
    (goodOutside f s).converter.quantities[q] = aged s.converter.entries[q] s.converter.quantities[q] := by
  have h : (goodOutside f s).converter = (ageAll (examineGood f s)).converter := by simp [goodOutside]
  rw [h, ageAll_quantity, (examineGood_frame f s).1]

theorem goodOutside_grows (f : Frame) (s : State) : NoticesGrow (examineGood f s) (goodOutside f s) :=
  (ageAll_grows _).and_eq (by simp [goodOutside])

theorem goodCounted_fields (gap deadline : Option Nat) (p : RingPort) :
    (goodCounted gap deadline p).lastError = p.lastError ∧ (goodCounted gap deadline p).missedCycles = p.missedCycles
    ∧ (goodCounted gap deadline p).previous = p.previous ∧ (goodCounted gap deadline p).badFrames = p.badFrames := by
  unfold goodCounted
  split
  · exact ⟨rfl, rfl, rfl, rfl⟩
  · by_cases hn : (if gap = some 1 then min (p.syncCount + 1) 8 else 1) = 8
    · rw [if_pos hn]
      exact ⟨rfl, rfl, rfl, rfl⟩
    · rw [if_neg hn]
      exact ⟨rfl, rfl, rfl, rfl⟩
  · split <;> exact ⟨rfl, rfl, rfl, rfl⟩
  · exact ⟨rfl, rfl, rfl, rfl⟩
  · exact ⟨rfl, rfl, rfl, rfl⟩

theorem goodCounted_syncing {gap deadline : Option Nat} {p : RingPort} {n : Nat} (h : p.state = .syncing)
    (hn : n = if gap = some 1 then min (p.syncCount + 1) 8 else 1) :
    (goodCounted gap deadline p).syncCount = n
    ∧ (goodCounted gap deadline p).state = (if n = 8 then .listen else .syncing)
    ∧ (n = 8 → (goodCounted gap deadline p).runCount = 0 ∧ (goodCounted gap deadline p).deadline = deadline) := by
  unfold goodCounted
  rw [h]
  dsimp only
  rw [← hn]
  by_cases h8 : n = 8
  · rw [if_pos h8, if_pos h8]
    exact ⟨h8.symm, rfl, fun _ => ⟨rfl, rfl⟩⟩
  · rw [if_neg h8, if_neg h8]
    exact ⟨rfl, rfl, fun e => absurd e h8⟩

theorem goodCounted_fault {gap deadline : Option Nat} {p : RingPort} {n : Nat} (h : p.state = .fault)
    (hn : n = min (p.recoveryCount + 1) 64) :
    (goodCounted gap deadline p).recoveryCount = n
    ∧ (goodCounted gap deadline p).state = (if n = 64 then .listen else .fault)
    ∧ (n = 64 → (goodCounted gap deadline p).runCount = 0 ∧ (goodCounted gap deadline p).deadline = deadline) := by
  unfold goodCounted
  rw [h]
  dsimp only
  rw [← hn]
  by_cases h64 : n = 64
  · rw [if_pos h64, if_pos h64]
    exact ⟨h64.symm, rfl, fun _ => ⟨rfl, rfl⟩⟩
  · rw [if_neg h64, if_neg h64]
    exact ⟨rfl, rfl, fun e => absurd e h64⟩

theorem goodOutside_sameBelt (f : Frame) (s : State) : SameBelt s (goodOutside f s) := by
  unfold SameBelt
  simp

/-- Settles O18: the examination, the ageing and the count of the port's state. -/
theorem goodFrameOutsideListenAndActive : Obligations.GoodFrameOutsideListenAndActive := by
  intro rx s hs hgood
  have hport : (goodOutside rx.frame (takeIn rx s)).port =
      goodCounted (cycleGap s.port rx.frame) (some (s.timer + rx.elapsed + 4 * s.port.period))
        (examineGood rx.frame (takeIn rx s)).port := goodOutside_port _ _
  have hexamined : (examineGood rx.frame (takeIn rx s)).port = { s.port with
      previous := some (rx.frame.cycle, rx.frame.timestamp), lastError := (examined s.port rx.frame).1,
      missedCycles := (examined s.port rx.frame).2 } := examineGood_port _ _
  rw [hexamined] at hport
  obtain ⟨herror, hmissed, hprevious, hframes⟩ := goodCounted_fields (cycleGap s.port rx.frame)
    (some (s.timer + rx.elapsed + 4 * s.port.period)) { s.port with
      previous := some (rx.frame.cycle, rx.frame.timestamp), lastError := (examined s.port rx.frame).1,
      missedCycles := (examined s.port rx.frame).2 }
  obtain ⟨hlines, -, -, -, htimer, hreply, -⟩ := goodOutside_frame rx.frame (takeIn rx s)
  have hsettings := frameWork_sameSettings rx.frame (takeIn rx s)
  rw [frameWork_outside (s := takeIn rx s) hs hgood] at hsettings
  have hage := goodOutside_quantity rx.frame (takeIn rx s)
  have hcycleMissed : Missed s.port rx.frame → PendingIfEnabled .cycleMissed s (goodOutside rx.frame (takeIn rx s)) :=
    fun h he => (goodOutside_grows rx.frame (takeIn rx s)).keeps _ (examineGood_missed (s := takeIn rx s) h he)
  have hbelt := sameBelt_trans (takeIn_sameBelt rx s) (goodOutside_sameBelt rx.frame (takeIn rx s))
  refine ⟨receive rx s, rfl, ?_⟩
  rw [receive_outside hs hgood]
  generalize goodOutside rx.frame (takeIn rx s) = w at *
  simp only [State.withDownstream_port, State.withDownstream_downstream, State.withDownstream_reply,
    State.withDownstream_timer, State.withDownstream_lines, State.withDownstream_converter, hport, hlines]
  refine ⟨Prod.ext herror hmissed, hcycleMissed, hprevious, hframes, trivial, hreply, htimer, rfl, hage,
    sameSettings_trans (takeIn_sameSettings rx s) hsettings, hbelt, fun h => ?_, fun n h hn => ?_, fun n h hn => ?_⟩
  · simp [goodCounted, h]
  · exact goodCounted_syncing h hn
  · exact goodCounted_fault h hn

/-! ### The events of the counts -/

/-- An event that the frame brings about answers the frame's reception. -/
theorem inFrame_due {due : State → State → Bool} {rx : Reception} {s : State}
    (h : due (atReception rx s) (frameWork rx.frame (atReception rx s)) = true) :
    inFrame due rx s = .next (receive rx s) := if_pos h

/-- Settles O25: the frame that completes the count takes the port to LISTEN, so its event is due. -/
theorem countsBringThePortToListen : Obligations.CountsBringThePortToListen := by
  intro rx s hgood
  refine ⟨fun hstate hgap hcount => ?_, fun hstate hcount => ?_⟩
  · have hs : ¬Served s := by simp [Served, hstate]
    obtain ⟨t, ht, -, -, -, -, hdown, hreply, -, -, -, -, -, -, hsync, -⟩ :=
      goodFrameOutsideListenAndActive rx s hs hgood
    obtain ⟨hn, hlisten, hrun⟩ := hsync 8 hstate (by simp [hgap, hcount])
    obtain ⟨hzero, hdeadline⟩ := hrun rfl
    have hreceive : receive rx s = t := Host.Outcome.next.inj ht
    refine ⟨t, ?_, ht, hlisten, hn, hzero, hdeadline, hdown, hreply⟩
    rw [receive_outside hs hgood] at hreceive
    have hdue : dueSync (atReception rx s) (frameWork rx.frame (atReception rx s)) = true := by
      rw [atReception_not_served hs, frameWork_outside (s := takeIn rx s) hs hgood]
      rw [← hreceive] at hlisten
      exact Bool.and_eq_true_iff.mpr ⟨decide_eq_true hstate, decide_eq_true hlisten⟩
    exact (inFrame_due hdue).trans ht
  · have hs : ¬Served s := by simp [Served, hstate]
    obtain ⟨t, ht, -, -, -, -, hdown, hreply, -, -, -, -, -, -, -, hfault⟩ :=
      goodFrameOutsideListenAndActive rx s hs hgood
    obtain ⟨hn, hlisten, hrun⟩ := hfault 64 hstate (by simp [hcount])
    obtain ⟨hzero, hdeadline⟩ := hrun rfl
    have hreceive : receive rx s = t := Host.Outcome.next.inj ht
    refine ⟨t, ?_, ht, hlisten, hn, hzero, hdeadline, hdown, hreply⟩
    rw [receive_outside hs hgood] at hreceive
    have hdue : dueRecovery (atReception rx s) (frameWork rx.frame (atReception rx s)) = true := by
      rw [atReception_not_served hs, frameWork_outside (s := takeIn rx s) hs hgood]
      rw [← hreceive] at hlisten
      exact Bool.and_eq_true_iff.mpr ⟨decide_eq_true hstate, decide_eq_true hlisten⟩
    exact (inFrame_due hdue).trans ht

end Sys2Proof.Proofs

/-! Halts that a frame brings: the third bad frame and the silence (O26), the loss of a quantity (O27), the LISTEN arrival
(O19), and the slot bytes a frame leaves (O21). -/

namespace Sys2Proof.Proofs

open Machine Statements Safety

/-! ### What raisings do to the governor and the open record -/

/-- The governor and the open record stand, or the line, which ran, is HALTED. -/
inductive HaltStep (s t : State) : Prop
  | keeps (gov : t.gov = s.gov) (opened : t.seq.openRecord = s.seq.openRecord)
  | halts (running : lineRunning s.gov.line = true) (gov : t.gov = haltedGov s.gov)
      (closed : s.gov.command = 0 → t.seq.openRecord = none)

theorem HaltStep.refl (s : State) : HaltStep s s := .keeps rfl rfl

theorem HaltStep.trans {s t u : State} (h : HaltStep s t) (h' : HaltStep t u) : HaltStep s u := by
  cases h with
  | keeps hgov hopen =>
    cases h' with
    | keeps hgov' hopen' => exact .keeps (hgov'.trans hgov) (hopen'.trans hopen)
    | halts hrun hgov' hclosed =>
      rw [hgov] at hrun hgov' hclosed
      exact .halts hrun hgov' hclosed
  | halts hrun hgov hclosed =>
    cases h' with
    | keeps hgov' hopen' => exact .halts hrun (hgov'.trans hgov) fun h => hopen'.trans (hclosed h)
    | halts hrun' => rw [hgov] at hrun'; cases hrun'

/-- Work that leaves the governor and the sequencer as they were. -/
theorem HaltStep.of_eq {s t : State} (hgov : t.gov = s.gov) (hseq : t.seq = s.seq) : HaltStep s t :=
  .keeps hgov (congrArg Sequencer.openRecord hseq)

theorem HaltStep.after_eq {s t u : State} (h : HaltStep t u) (hgov : t.gov = s.gov) (hseq : t.seq = s.seq) :
    HaltStep s u := (HaltStep.of_eq hgov hseq).trans h

theorem raiseNotice_haltStep (n : Notice) (s : State) : HaltStep s (raiseNotice n s) := by
  obtain h | ⟨t, rfl, h | ⟨hrun, h⟩⟩ := raiseNotice_cases n s
  · rw [h]
    exact .refl s
  · rw [h]
    exact .of_eq rfl rfl
  · rw [h]
    refine .halts hrun (enterHalted_gov _) fun hc => ?_
    rw [enterHalted_seq]
    exact if_pos hc

theorem raiseAll_haltStep (ns : List Notice) (s : State) : HaltStep s (raiseAll ns s) := by
  induction ns generalizing s with
  | nil => exact .refl s
  | cons n ns ih => exact (raiseNotice_haltStep n s).trans (ih _)

theorem raiseWhen_haltStep (c : Bool) (n : Notice) (s : State) : HaltStep s (raiseWhen c n s) := by
  unfold raiseWhen
  split
  · exact raiseNotice_haltStep n s
  · exact .refl s

theorem HaltStep.line {s t : State} (h : HaltStep s t) : t.gov.line = s.gov.line ∨ t.gov.line = .halted := by
  cases h with
  | keeps hgov => exact .inl (congrArg Governor.line hgov)
  | halts _ hgov => exact .inr (congrArg Governor.line hgov)

theorem examineGood_haltStep (f : Frame) (s : State) : HaltStep s (examineGood f s) := by
  unfold examineGood
  dsimp only
  split
  · exact .of_eq rfl rfl
  · split
    · exact (raiseNotice_haltStep _ _).after_eq rfl rfl
    · split
      · exact (raiseNotice_haltStep _ _).after_eq rfl rfl
      · exact .of_eq rfl rfl

theorem doorTest_haltStep (s : State) : HaltStep s (doorTest s) := by
  unfold doorTest
  split
  · exact .refl s
  · exact (raiseWhen_haltStep _ _ _).after_eq rfl rfl

theorem convertArrival_haltStep (b : List Byte) (s : State) : HaltStep s (convertArrival b s) :=
  (raiseAll_haltStep _ _).after_eq rfl rfl

theorem ageAll_haltStep (s : State) : HaltStep s (ageAll s) := (raiseAll_haltStep _ _).after_eq rfl rfl

theorem sampleWork_haltStep (f : Frame) (s : State) : HaltStep s (sampleWork f s) := by
  have hdoor : HaltStep s (doorTest (latchLines s)) := (doorTest_haltStep _).after_eq rfl rfl
  have hbehind : ∀ t, HaltStep t (noteBehind (beltLost s) t) := fun t => .of_eq (by simp) (by simp)
  exact (hdoor.trans (convertArrival_haltStep f.slots _)).trans (hbehind _)

/-! ### The third bad frame and the silence (R6, R8, R9, R126, R187) -/

theorem ringFault_routed {s : State} (h : FixedNoticesHalt s) :
    s.notices.routes[noticeIndex .ringFault].enabled = true ∧ s.notices.routes[noticeIndex .ringFault].cls = .halt :=
  h 0 (List.mem_cons_self ..)

/-- The entry into FAULT halts a running line. -/
theorem enterFault_halts {s : State} (hfixed : FixedNoticesHalt s) (hrun : lineRunning s.gov.line = true) :
    (enterFault s).gov = haltedGov s.gov := by
  obtain ⟨he, hcls⟩ := ringFault_routed hfixed
  have hhalts := raiseNotice_halts (n := .ringFault)
    (s := s.withPort { s.port with state := .fault, recoveryCount := 0, deadline := none }) he hcls hrun
  rw [enterFault, hhalts, enterHalted_gov]
  rfl

/-- The entry into FAULT leaves a line that stands as it is. -/
theorem enterFault_rests {s : State} (hfixed : FixedNoticesHalt s) (hrun : lineRunning s.gov.line = false) :
    enterFault s = withPendingNotice .ringFault
      (s.withPort { s.port with state := .fault, recoveryCount := 0, deadline := none }) :=
  raiseNotice_pends (ringFault_routed hfixed).1 (.inr hrun)

theorem enterFault_line {s : State} (hfixed : FixedNoticesHalt s)
    (h : s.gov.line = .run ∨ s.gov.line = .stopping ∨ s.gov.line = .halted) : (enterFault s).gov.line = .halted := by
  cases hrun : lineRunning s.gov.line with
  | true => rw [enterFault_halts hfixed hrun]; rfl
  | false =>
    have hnot : ¬(s.gov.line = .run ∨ s.gov.line = .stopping) := by
      rw [← lineRunning_iff, hrun]
      decide
    rw [enterFault_rests hfixed hrun]
    rcases h with h | h | h
    · exact absurd (.inl h) hnot
    · exact absurd (.inr h) hnot
    · exact h

theorem badFrame_third {code : ErrorCode} {s : State} (hs : Served s) (hrun : 2 ≤ s.port.runCount) :
    ∃ p, badFrame code s = enterFault ((ageAll (countBad code s)).withPort p) := by
  have hport : (ageAll (countBad code s)).port = badCounted code s.port := by
    rw [(ageAll_frame _).1, countBad_port]
  have hserved : Served (ageAll (countBad code s)) := by
    unfold Served
    rw [hport]
    exact hs
  have hnot : ¬(ageAll (countBad code s)).port.runCount < 2 := by
    rw [hport]
    exact Nat.not_lt.mpr hrun
  exact ⟨_, by rw [badFrame, countBadRun_serving hserved, if_neg hnot]⟩

theorem badFrame_halts {code : ErrorCode} {s : State} (hs : Served s) (hrun : 2 ≤ s.port.runCount)
    (hfixed : FixedNoticesHalt s) (hline : s.gov.line = .run ∨ s.gov.line = .stopping) :
    (badFrame code s).gov.line = .halted := by
  obtain ⟨p, hp⟩ := badFrame_third (code := code) hs hrun
  have hroutes : (ageAll (countBad code s)).notices.routes = s.notices.routes := by simp
  have hkept : FixedNoticesHalt ((ageAll (countBad code s)).withPort p) := by
    unfold FixedNoticesHalt
    rw [State.withPort_notices, hroutes]
    exact hfixed
  have hcounted : HaltStep s (countBad code s) := (raiseNotice_haltStep _ _).after_eq rfl rfl
  rw [hp]
  refine enterFault_line hkept ?_
  rcases (hcounted.trans (ageAll_haltStep _)).line with h | h
  · rw [State.withPort_gov, h]
    exact hline.imp_right .inl
  · exact .inr (.inr h)

theorem expireSilence_gov {s : State} (hfixed : FixedNoticesHalt s) (hline : s.gov.line = .run ∨ s.gov.line = .stopping) :
    (expireSilence s).gov = haltedGov s.gov :=
  enterFault_halts (s := s.withPort { s.port with lastError := .silence }) hfixed ((lineRunning_iff _).mpr hline)

theorem expireSilence_rests {s : State} (hfixed : FixedNoticesHalt s) (hrun : s.gov.line ≠ .run)
    (hstop : s.gov.line ≠ .stopping) : (expireSilence s).gov = s.gov ∧ (expireSilence s).seq = s.seq
      ∧ (expireSilence s).folds = s.folds := by
  have hstands : lineRunning s.gov.line = false := by
    rw [← Bool.not_eq_true, lineRunning_iff]
    exact fun h => h.elim hrun hstop
  have hrests := enterFault_rests (s := s.withPort { s.port with lastError := .silence }) hfixed hstands
  rw [expireSilence, hrests]
  exact ⟨rfl, rfl, rfl⟩

theorem expireSilence_sameBelt (s : State) : SameBelt s (expireSilence s) := by
  unfold SameBelt
  simp

/-- Settles O26: the third bad frame is its own event, and both faults raise RING_FAULT, which is of class HALT. -/
theorem faultsHaltTheLine : Obligations.FaultsHaltTheLine := by
  intro s hs hfixed
  refine ⟨fun rx code htime hbad hcount => ?_, fun d hd => ?_⟩
  · have hport : (badFrame code (takeIn rx s)).port = badRunCounted (badCounted code s.port) := badFrame_port _ _
    rw [badRunCounted_above (p := badCounted code s.port) hs (Nat.le_of_eq hcount.symm)] at hport
    have hpending := badFrame_ringFault (code := code) (s := takeIn rx s) hs (Nat.le_of_eq hcount.symm)
      (ringFault_routed hfixed).1
    have hhalts : s.gov.line = .run ∨ s.gov.line = .stopping → (badFrame code (takeIn rx s)).gov.line = .halted :=
      badFrame_halts (s := takeIn rx s) hs (Nat.le_of_eq hcount.symm) hfixed
    have hdue : dueRunFault (atReception rx s) (frameWork rx.frame (atReception rx s)) = true := by
      rw [atReception_in_time htime, frameWork_bad (s := takeIn rx s) hbad]
      refine Bool.and_eq_true_iff.mpr ⟨serves_of_served hs, decide_eq_true ?_⟩
      rw [hport]
    have hdamaged : forwardedBad s.port.state rx.frame = damaged rx.frame := by
      rw [forwardedBad_eq]
      exact if_neg (by rcases hs with h | h <;> simp [h])
    refine ⟨receive rx s, inFrame_due hdue, rfl, ?_⟩
    rw [receive_bad htime hbad, hdamaged]
    generalize badFrame code (takeIn rx s) = w at *
    simp only [State.withDownstream_port, hport]
    exact ⟨trivial, trivial, trivial, rfl, rfl, hpending, hhalts⟩
  · have hexec : exec .silenceTimeout s = .next (expireSilence ((s.withReply none).withTimer (max s.timer d))) := by
      show execSilenceTimeout s = _
      rw [execSilenceTimeout, hd]
      exact if_pos (serves_of_served hs)
    have hport := enterFault_port ((((s.withReply none).withTimer (max s.timer d))).withPort
      { s.port with lastError := .silence })
    have hpending := raiseNotice_pending .ringFault ((((s.withReply none).withTimer (max s.timer d)).withPort
      { s.port with lastError := .silence, state := .fault, recoveryCount := 0, deadline := none }))
      (ringFault_routed hfixed).1
    have hgov := expireSilence_gov (s := (s.withReply none).withTimer (max s.timer d)) hfixed
    have hrests := expireSilence_rests (s := (s.withReply none).withTimer (max s.timer d)) hfixed
    have hbelt := expireSilence_sameBelt ((s.withReply none).withTimer (max s.timer d))
    obtain ⟨hconverter, -, -, -, -, htimer, hreply, -⟩ :=
      expireSilence_frame ((s.withReply none).withTimer (max s.timer d))
    exact ⟨_, hexec, hport, htimer, hpending, hreply, hconverter, hbelt, hgov, hrests⟩

/-! ### The loss of a quantity (R25, R27) -/

/-- The state in which an arrival's samples are converted. -/
def converting (f : Frame) (s : State) : State := doorTest (latchLines (countArrival (examineGood f s)))

theorem converting_converter (f : Frame) (s : State) : (converting f s).converter = s.converter := by
  simp [converting]

theorem converting_routes (f : Frame) (s : State) : (converting f s).notices.routes = s.notices.routes := by
  simp [converting]

/-- What follows the conversion of an arrival leaves the converter as it was. -/
theorem arrival_converter (f : Frame) (s : State) :
    (arrival f s).converter = (convertArrival f.slots (converting f s)).converter := by
  have hsample : (sampleWork f (countArrival (examineGood f s))).converter =
      (convertArrival f.slots (converting f s)).converter := by simp [sampleWork, converting]
  rw [← hsample]
  unfold arrival arrivalWork
  dsimp only
  split <;> simp

theorem arrival_grows (f : Frame) (s : State) :
    NoticesGrow (convertArrival f.slots (converting f s)) (arrival f s) := by
  have hsample : NoticesGrow (convertArrival f.slots (converting f s)) (sampleWork f (countArrival (examineGood f s))) :=
    .of_eq (by simp [sampleWork, converting])
  unfold arrival arrivalWork
  dsimp only
  split
  · exact hsample.trans (activeWork_grows _ _ _)
  · exact hsample.and_eq (by simp)

theorem arrival_quantity (f : Frame) (s : State) (q : Fin 16) :
    (arrival f s).converter.quantities[q] = (convertQuantity (converting f s) f.slots q).1 := by
  rw [arrival_converter, convertArrival, withQuantities_quantity]

/-- Without a valid sample a quantity ages. -/
theorem convertQuantity_ages {s : State} {slots : List Byte} {q : Fin 16}
    (h : s.converter.entries[q].enabled = false ∨ decodedSample s slots s.converter.entries[q] = none) :
    convertQuantity s slots q = ageQuantity q s.converter.entries[q] s.converter.quantities[q] := by
  have hnone : (if s.converter.entries[q].enabled then decodedSample s slots s.converter.entries[q] else none) = none := by
    rcases h with h | h
    · rw [h]; rfl
    · rw [h]; exact ite_self _
  unfold convertQuantity
  simp only [hnone]
  rfl

theorem frameWork_arrival {f : Frame} {s : State} (hs : Served s) (hgood : frameFinding s.port f = none) :
    frameWork f s = arrival f s := by
  rw [frameWork, hgood]
  exact if_pos (serves_of_served hs)

/-- The quantity that a frame ages, and the notice of its loss. -/
theorem frameWork_stale {q : Fin 16} {f : Frame} {s : State} (hl : s.converter.quantities[q].lost = false)
    (ha : s.converter.entries[q].staleLimit < min (s.converter.quantities[q].age + 1) 65535)
    (h : frameFinding s.port f ≠ none ∨ ¬Served s ∨ s.converter.entries[q].enabled = false
      ∨ decodedSample (converting f s) f.slots s.converter.entries[q] = none) :
    (frameWork f s).converter.quantities[q] = aged s.converter.entries[q] s.converter.quantities[q]
    ∧ ∀ n, n ∈ lossNotice q → PendingIfEnabled n s (frameWork f s) := by
  have hraised : ∀ n, n ∈ lossNotice q →
      n ∈ (ageQuantity q s.converter.entries[q] s.converter.quantities[q]).2 := fun n hn => by
    rw [ageQuantity_notice hl ha]
    exact Option.mem_toList.mpr hn
  have hageAll : ∀ t : State, t.converter = s.converter → t.notices.routes = s.notices.routes → ∀ n, n ∈ lossNotice q →
      PendingIfEnabled n s (ageAll t) := fun t hconverter hroutes n hn he =>
    withQuantities_pending (q := q) t (by rw [quantity, hconverter]; exact hraised n hn) (by rw [hroutes]; exact he)
  cases hfinding : frameFinding s.port f with
  | some code =>
    rw [frameWork_bad hfinding]
    exact ⟨badFrame_quantity code s q, fun n hn he =>
      (countBadRun_grows _).keeps _ (hageAll (countBad code s) (by simp) (by simp) n hn he)⟩
  | none =>
    by_cases hs : Served s
    · have hages := convertQuantity_ages (s := converting f s) (slots := f.slots) (q := q) (by
        rw [converting_converter]
        exact (h.resolve_left (not_not.mpr hfinding)).resolve_left (not_not.mpr hs))
      rw [converting_converter] at hages
      rw [frameWork_arrival hs hfinding]
      refine ⟨by rw [arrival_quantity, hages, ageQuantity_fst], fun n hn he => (arrival_grows f s).keeps _ ?_⟩
      refine withQuantities_pending (q := q) _ ?_ (by rw [converting_routes]; exact he)
      rw [hages]
      exact hraised n hn
    · rw [frameWork_outside hs hfinding]
      refine ⟨goodOutside_quantity f s q, fun n hn he => ?_⟩
      have hgrows : NoticesGrow (ageAll (examineGood f s)) (goodOutside f s) := .of_eq (by simp [goodOutside])
      exact hgrows.keeps _ (hageAll (examineGood f s) (by simp) (by simp) n hn he)

/-- A reception taken in time whose frame is bad, finds the port outside LISTEN and ACTIVE, or carries no request. -/
theorem receive_without_request {rx : Reception} {s : State} (htime : TakenInTime rx s)
    (h : frameFinding s.port rx.frame ≠ none ∨ ¬Served s ∨ NoRequest rx s) :
    ∃ d, receive rx s = (frameWork rx.frame (takeIn rx s)).withDownstream (some d) := by
  cases hfinding : frameFinding s.port rx.frame with
  | some code =>
    rw [frameWork_bad (s := takeIn rx s) hfinding]
    exact ⟨_, receive_bad htime hfinding⟩
  | none =>
    by_cases hs : Served s
    · have hno := (h.resolve_left (not_not.mpr hfinding)).resolve_left (not_not.mpr hs)
      rw [receive, atReception_in_time htime]
      exact handleFrame_noRequest (addressed_of_noRequest hno rfl)
    · rw [frameWork_outside (s := takeIn rx s) hs hfinding]
      exact ⟨_, receive_outside hs hfinding⟩

/-- Settles O27: the frame ages the quantity past its limit, whichever work it brings. -/
theorem staleQuantityEntersLost : Obligations.StaleQuantityEntersLost := by
  intro q rx s htime hl ha h
  obtain ⟨hquantity, hnotice⟩ := frameWork_stale (f := rx.frame) (s := takeIn rx s) hl ha h
  have haged : aged s.converter.entries[q] s.converter.quantities[q] =
      { s.converter.quantities[q] with
        age := min (s.converter.quantities[q].age + 1) 65535, lost := true, lastRaw := none } := if_pos ⟨hl, ha⟩
  have hlost : (frameWork rx.frame (takeIn rx s)).converter.quantities[q] =
      { s.converter.quantities[q] with
        age := min (s.converter.quantities[q].age + 1) 65535, lost := true, lastRaw := none } := hquantity.trans haged
  have hdue : dueStale q (atReception rx s) (frameWork rx.frame (atReception rx s)) = true := by
    rw [atReception_in_time htime]
    refine Bool.and_eq_true_iff.mpr ⟨?_, ?_⟩
    · show (!(s.converter.quantities[q]).lost) = true
      rw [hl]
      rfl
    · unfold quantity
      rw [hlost]
  refine ⟨receive rx s, inFrame_due hdue, rfl, ?_⟩
  rintro w rfl
  refine ⟨fun hno => ?_, hlost, fun n hn k hk => ?_⟩
  · obtain ⟨d, hd⟩ := receive_without_request htime hno
    rw [hd]
    exact ⟨rfl, rfl⟩
  · have hmem : lossNotice q = some k := hn.symm.trans hk
    exact hnotice k hmem

end Sys2Proof.Proofs

/-! The slot area a frame leaves (O21), and the arrival in LISTEN (O19). -/

namespace Sys2Proof.Proofs

open Machine Statements Safety

/-! ### Writing fields (R15) -/

theorem overwrite_length (bytes new : List Byte) (offset : Nat) : (overwrite bytes offset new).length = bytes.length := by
  unfold overwrite
  split
  · simp
    omega
  · rfl

/-- A byte outside the bytes written stands. -/
theorem overwrite_outside {bytes new : List Byte} {offset n : Nat} (h : n < offset ∨ offset + new.length ≤ n) :
    (overwrite bytes offset new)[n]? = bytes[n]? := by
  unfold overwrite
  split
  · next hfits =>
    have htake : (bytes.take offset).length = offset := List.length_take_of_le (by omega)
    rcases h with h | h
    · rw [List.append_assoc, List.getElem?_append_left (by omega), List.getElem?_take_of_lt h]
    · rw [List.getElem?_append_right (by simp; omega), List.getElem?_drop]
      congr 1
      simp
      omega
  · rfl

theorem writeField_length (s : State) (slots : List Byte) (i : Fin 9) : (writeField s slots i).length = slots.length := by
  unfold writeField
  split
  · exact overwrite_length _ _ _
  · rfl

/-- A field is written only inside a write window. -/
theorem writableAt_window {p : RingPort} {n o : Nat} {i : Fin 9} (h : writableAt p n i = some o) :
    ∃ (k : Fin 4) (w : Window), p.writeWindows[k] = some w ∧ w.base ≤ o ∧ o + fieldSize i ≤ w.limit + 1 := by
  unfold writableAt at h
  split at h
  · split at h
    · next hinside =>
      cases h
      obtain ⟨hwindow, -⟩ := Bool.and_eq_true_iff.mp hinside
      obtain ⟨x, hx, hin⟩ := List.any_eq_true.mp hwindow
      cases x with
      | none => cases hin
      | some w =>
        obtain ⟨k, hk, hw⟩ := List.mem_iff_getElem.mp hx
        rw [Bool.and_eq_true, decide_eq_true_eq, decide_eq_true_eq] at hin
        exact ⟨⟨k, by simpa using hk⟩, w, by simpa using hw, hin.1, hin.2⟩
    · cases h
  · cases h

/-- An offset in no present write window. -/
def OutsideWindows (p : RingPort) (n : Nat) : Prop :=
  ∀ (i : Fin 4) (w : Window), p.writeWindows[i] = some w → ¬(w.base ≤ n ∧ n ≤ w.limit)

theorem writeField_outside {s : State} {n : Nat} (h : OutsideWindows s.port n) (slots : List Byte) (i : Fin 9) :
    (writeField s slots i)[n]? = slots[n]? := by
  unfold writeField
  split
  · next o ho =>
    obtain ⟨k, w, hw, hbase, hlimit⟩ := writableAt_window ho
    have hnot := h k w hw
    refine overwrite_outside ?_
    rw [fieldBytes_length]
    omega
  · rfl

theorem writeFields_length (s : State) (l : List (Fin 9)) (slots : List Byte) :
    (l.foldl (writeField s) slots).length = slots.length := by
  induction l generalizing slots with
  | nil => rfl
  | cons i l ih => exact (ih _).trans (writeField_length s slots i)

theorem writeFields_outside {s : State} {n : Nat} (h : OutsideWindows s.port n) (l : List (Fin 9)) (slots : List Byte) :
    (l.foldl (writeField s) slots)[n]? = slots[n]? := by
  induction l generalizing slots with
  | nil => rfl
  | cons i l ih => exact (ih _).trans (writeField_outside h slots i)

/-! ### The frame that goes downstream -/

/-- The frame a good frame in LISTEN or ACTIVE leaves has the written slots. -/
theorem finishArrival_downstream (f : Frame) (s : State) :
    ∃ d, (finishArrival f s).downstream = some d ∧ d.slots = writtenSlots s f.slots := by
  unfold finishArrival
  dsimp only
  split <;> exact ⟨_, rfl, rfl⟩

theorem forwardedBad_slots (p : PortState) (f : Frame) : (forwardedBad p f).slots = f.slots := by
  cases p <;> rfl

theorem handleFrame_downstream (f : Frame) (s : State) : ∃ d, (handleFrame f s).downstream = some d
    ∧ (d.slots = f.slots ∨ portServes s.port.state = true ∧ d.slots = writtenSlots (arrival f s) f.slots) := by
  unfold handleFrame
  split
  · exact ⟨_, rfl, .inl (forwardedBad_slots _ _)⟩
  · split
    · next hserves =>
      obtain ⟨d, hd, hslots⟩ := finishArrival_downstream f (arrival f s)
      exact ⟨d, hd, .inr ⟨hserves, hslots⟩⟩
    · exact ⟨_, rfl, .inl rfl⟩

theorem atReception_writeWindows (rx : Reception) (s : State) :
    (atReception rx s).port.writeWindows = s.port.writeWindows := by
  obtain ⟨-, -, -, -, -, -, -, -, -, -, -, -, -, -, -, -, hwindows, -⟩ := atReception_sameSettings rx s
  exact hwindows

/-- Settles O21: only fields are written, each inside a write window. -/
theorem slotBytesOutsideWriteWindowsStand : Obligations.SlotBytesOutsideWriteWindowsStand := by
  intro rx s t ht
  have hreceive : receive rx s = t := Host.Outcome.next.inj ht
  obtain ⟨d, hd, hslots⟩ := handleFrame_downstream rx.frame (atReception rx s)
  refine ⟨d, hreceive ▸ hd, ?_⟩
  rcases hslots with hslots | ⟨hserves, hslots⟩
  · rw [hslots]
    exact ⟨rfl, fun _ _ => rfl, fun _ _ => rfl⟩
  · have hwindows : (arrival rx.frame (atReception rx s)).port.writeWindows = s.port.writeWindows :=
      (arrival_settings rx.frame _).2.2.1.trans (atReception_writeWindows rx s)
    rw [hslots]
    refine ⟨writeFields_length _ _ _, fun hl ha => ?_, fun n hn => writeFields_outside ?_ _ _⟩
    · have hs : ¬Served s := fun h => h.elim hl ha
      rw [atReception_not_served hs] at hserves
      exact absurd (hserves.symm.trans (not_serves_of_not_served hs)) (by decide)
    · unfold OutsideWindows
      rw [hwindows]
      exact hn

/-! ### The arrival in LISTEN (R6, R8, R15, R127) -/

theorem arrival_port (f : Frame) (s : State) : (arrival f s).port =
    { s.port with previous := some (f.cycle, f.timestamp), lastError := (examined s.port f).1,
                  missedCycles := (examined s.port f).2, runCount := 0,
                  deadline := some (s.timer + 4 * s.port.period) } := by
  have hwork : (arrival f s).port = (countArrival (examineGood f s)).port := (arrivalWork_frame _ _ _).1
  have htimer : (examineGood f s).timer = s.timer := by simp
  rw [hwork, countArrival, State.withPort_port, nextDeadline, htimer, examineGood_port]

theorem arrival_cycleMissed {f : Frame} {s : State} (h : Missed s.port f) : PendingIfEnabled .cycleMissed s (arrival f s) :=
  fun he => (arrivalWork_grows _ _ _).keeps _ (examineGood_missed h he)

/-- The arrival's work in LISTEN. -/
theorem arrival_listen {f : Frame} {s : State} (h : s.port.state = .listen) :
    arrival f s = listenStop (sampleWork f (countArrival (examineGood f s))) := by
  have hstate : (sampleWork f (countArrival (examineGood f s))).port.state = .listen := by
    rw [(sampleWork_frame _ _).1, countArrival, State.withPort_port, examineGood_port]
    exact h
  unfold arrival arrivalWork
  exact if_neg (by rw [hstate]; decide)

theorem listenStop_seq_closed {s : State} (h : s.gov.line = .halted ∧ s.gov.command ≠ 0) :
    (listenStop s).gov.command = 0 ∧ (listenStop s).seq.openRecord = none := by
  rw [listenStop, if_pos h]
  refine ⟨?_, by rw [closeHalted_seq]⟩
  have hgov : ∀ t, (closeHalted t).gov = t.gov := fun t => by simp
  rw [hgov]
  rfl

/-- What an arrival in LISTEN does to the governor. -/
theorem arrival_listen_gov {f : Frame} {s : State} (h : s.port.state = .listen) :
    ((arrival f s).gov.line = .halted → (arrival f s).gov.command = 0 ∧ (arrival f s).seq.openRecord = none
      ∨ ((arrival f s).gov = s.gov ∧ s.gov.command = 0))
    ∧ ((arrival f s).gov.line ≠ .halted → (arrival f s).gov = s.gov) := by
  have hstep : HaltStep s (sampleWork f (countArrival (examineGood f s))) :=
    (examineGood_haltStep f s).trans ((sampleWork_haltStep f _).after_eq (by simp) (by simp))
  rw [arrival_listen h]
  generalize sampleWork f (countArrival (examineGood f s)) = w at *
  by_cases hstop : w.gov.line = .halted ∧ w.gov.command ≠ 0
  · have hclosed := listenStop_seq_closed hstop
    refine ⟨fun _ => .inl hclosed, fun hline => absurd ?_ hline⟩
    have hgov : ∀ t, (closeHalted t).gov = t.gov := fun t => by simp
    rw [listenStop, if_pos hstop, hgov]
    exact hstop.1
  · rw [listenStop, if_neg hstop]
    cases hstep with
    | keeps hgov => exact ⟨fun hline => .inr ⟨hgov, by_contra fun hc => hstop ⟨hline, by rwa [hgov]⟩⟩, fun _ => hgov⟩
    | halts hrun hgov hclosed =>
      have hhalted : w.gov.line = .halted := congrArg Governor.line hgov
      have hzero : w.gov.command = 0 := by_contra fun hc => hstop ⟨hhalted, hc⟩
      have hcommand : s.gov.command = 0 := (congrArg Governor.command hgov).symm.trans hzero
      exact ⟨fun _ => .inl ⟨hzero, hclosed hcommand⟩, fun hline => absurd hhalted hline⟩

theorem arrival_listen_sameBelt {f : Frame} {s : State} (h : s.port.state = .listen) : SameBelt s (arrival f s) := by
  rw [arrival_listen h]
  unfold SameBelt
  simp

/-- The slot area an arrival in LISTEN leaves: STATUS written where it may be. -/
theorem writtenSlots_listen {s : State} {slots : List Byte} (h : s.port.state = .listen) : writtenSlots s slots =
    (match s.port.map[(8 : Fin 9)] with
     | some o => if insideOneWindow s.port.writeWindows o 26 = true ∧ o + 26 ≤ slots.length then
         slots.take o ++ statusBytes s ++ slots.drop (o + 26)
       else slots
     | none => slots) := by
  have hfields : writtenSlots s slots = writeField s slots statusField := by
    rw [writtenSlots, h]
    rfl
  rw [hfields, writeField, writableAt]
  cases hmap : s.port.map[statusField] with
  | none =>
    have hmap' : s.port.map[(8 : Fin 9)] = none := hmap
    rw [hmap']
  | some o =>
    have hmap' : s.port.map[(8 : Fin 9)] = some o := hmap
    rw [hmap']
    dsimp only
    by_cases hin : insideOneWindow s.port.writeWindows o 26 = true ∧ o + 26 ≤ slots.length
    · have hwrites : (insideOneWindow s.port.writeWindows o (fieldSize statusField)
          && decide (o + fieldSize statusField ≤ slots.length)) = true :=
        Bool.and_eq_true_iff.mpr ⟨hin.1, decide_eq_true hin.2⟩
      rw [if_pos hin, if_pos hwrites]
      show overwrite slots o (statusBytes s) = _
      rw [overwrite, statusBytes_length, if_pos hin.2]
    · have hwrites : ¬(insideOneWindow s.port.writeWindows o (fieldSize statusField)
          && decide (o + fieldSize statusField ≤ slots.length)) = true := fun h => hin
        ⟨(Bool.and_eq_true_iff.mp h).1, of_decide_eq_true (Bool.and_eq_true_iff.mp h).2⟩
      rw [if_neg hin, if_neg hwrites]

/-- A good frame taken in time in LISTEN or ACTIVE without a request. -/
theorem receive_arrival {rx : Reception} {s : State} (htime : TakenInTime rx s) (hs : Served s)
    (hgood : frameFinding s.port rx.frame = none) (hno : NoRequest rx s) : receive rx s =
      (arrival rx.frame (takeIn rx s)).withDownstream (some (withFreshCrc
        { rx.frame with slots := writtenSlots (arrival rx.frame (takeIn rx s)) rx.frame.slots })) := by
  have haddressed : addressed (arrival rx.frame (takeIn rx s)).port rx.frame = false :=
    addressed_of_noRequest hno (arrival_settings _ _).1
  rw [receive, atReception_in_time htime, handleFrame_arrival (s := takeIn rx s) hgood (serves_of_served hs),
    finishArrival, haddressed]
  rfl

/-- Settles O19: the port, the samples, the stop of a halted line, and STATUS. -/
theorem listenArrivalWritesStatusAlone : Obligations.ListenArrivalWritesStatusAlone := by
  intro rx s htime hstate hgood hno
  have hport := arrival_port rx.frame (takeIn rx s)
  have hsettings : SameSettings s (arrival rx.frame (takeIn rx s)) := by
    rw [← frameWork_arrival (s := takeIn rx s) (.inl hstate) hgood]
    exact sameSettings_trans (takeIn_sameSettings rx s) (frameWork_sameSettings rx.frame _)
  have hcycleMissed : Missed s.port rx.frame → PendingIfEnabled .cycleMissed s (arrival rx.frame (takeIn rx s)) :=
    fun h => arrival_cycleMissed (s := takeIn rx s) h
  have hbelt : SameBelt s (arrival rx.frame (takeIn rx s)) :=
    sameBelt_trans (takeIn_sameBelt rx s) (arrival_listen_sameBelt (s := takeIn rx s) hstate)
  obtain ⟨hhalted, hother⟩ := arrival_listen_gov (f := rx.frame) (s := takeIn rx s) hstate
  have hreply : (arrival rx.frame (takeIn rx s)).reply = none := (arrival_frame _ _).2.2.1
  refine ⟨receive rx s, rfl, ?_⟩
  rw [receive_arrival htime (.inl hstate) hgood hno]
  generalize arrival rx.frame (takeIn rx s) = w at *
  have hwritten := writtenSlots_listen (s := w) (slots := rx.frame.slots) (by rw [hport]; exact hstate)
  simp only [State.withDownstream_port, hport]
  refine ⟨hstate, trivial, rfl, trivial, rfl, hcycleMissed, hreply, hsettings, hbelt, hhalted, hother, ?_⟩
  rintro slots rfl
  rw [hwritten, hport]
  rfl

end Sys2Proof.Proofs

/-! Reading a request's payload back (O23), and carrying it out in its frame (O22). -/

namespace Sys2Proof.Proofs

open Machine Statements Safety Decode

/-! ### Reading in a run of bytes -/

theorem readLe_skip {l r : List Byte} {k n : Nat} (h : l.length ≤ k) :
    readLe (l ++ r) k n = readLe r (k - l.length) n := by
  have hdrop : (l ++ r).drop k = r.drop (k - l.length) := by
    rw [List.drop_append, List.drop_of_length_le h, List.nil_append]
  rw [readLe, slice, hdrop, readLe, slice]

theorem readLe_head {n v : Nat} (h : fits n v = true) (r : List Byte) : readLe (leBytes n v ++ r) 0 n = v := by
  have hlt : v < 256 ^ n := of_decide_eq_true h
  rw [readLe, slice, List.drop_zero, List.take_left' (leBytes_length n v), leValue_leBytes, Nat.mod_eq_of_lt hlt]

theorem readLe_all {n v : Nat} (h : fits n v = true) : readLe (leBytes n v) 0 n = v := by
  have := readLe_head h []
  rwa [List.append_nil] at this

theorem optOperand_length (n : Nat) (o : OptArg) : (optOperand n o).length = n + 1 := by
  cases o <;> simp [optOperand, leBytes_length, Nat.add_comm]

theorem optAt_skip {l r : List Byte} {k n : Nat} (h : l.length ≤ k) :
    optAt (l ++ r) k n = optAt r (k - l.length) n := by
  rw [optAt, readLe_skip h, readLe_skip (Nat.le_succ_of_le h), Nat.succ_sub h, optAt]

theorem optAt_head {n : Nat} {o : OptArg} (h : optFits n o = true) (r : List Byte) :
    optAt (optOperand n o ++ r) 0 n = o := by
  have hpresence : ∀ {k : Nat} (l : List Byte), fits 1 k = true → readLe (leBytes 1 k ++ l) 0 1 = k :=
    fun l hk => readLe_head hk l
  cases o with
  | absent =>
    rw [optAt, optOperand, List.append_assoc, hpresence _ rfl]
    rfl
  | present v =>
    rw [optAt, optOperand, List.append_assoc, hpresence _ rfl]
    rw [readLe_skip (by rw [leBytes_length]), leBytes_length]
    exact congrArg OptArg.present (readLe_head h r)
  | malformed k =>
    obtain ⟨htwo, hfits⟩ := Bool.and_eq_true_iff.mp h
    have hk : 2 ≤ k := of_decide_eq_true htwo
    rw [optAt, optOperand, List.append_assoc, hpresence _ hfits]
    match k, hk with
    | k + 2, _ => rfl

theorem optAt_all {n : Nat} {o : OptArg} (h : optFits n o = true) : optAt (optOperand n o) 0 n = o := by
  have := optAt_head h []
  rwa [List.append_nil] at this

theorem windowAt_operand {b : WindowArg} (h : windowFits b = true) (d n : Nat) :
    windowAt (leBytes 1 d ++ (leBytes 1 n ++ windowOperand b)) 2 = b := by
  cases b with
  | absent => rfl
  | present x y =>
    obtain ⟨hx, hy⟩ := Bool.and_eq_true_iff.mp h
    have hone : fits 1 1 = true := rfl
    simp [windowAt, windowOperand, readLe_skip, readLe_head, readLe_all, leBytes_length, hx, hy, hone]
  | malformed k =>
    obtain ⟨htwo, hfits⟩ := Bool.and_eq_true_iff.mp h
    have hk : 2 ≤ k := of_decide_eq_true htwo
    simp only [windowAt, windowOperand, readLe_skip, readLe_head, leBytes_length, hfits, Nat.reduceLeDiff, Nat.reduceSub]
    match k, hk with
    | k + 2, _ => rfl

theorem windowOperand_length (b : WindowArg) : (windowOperand b).length = 5 := by
  cases b <;> simp [windowOperand, leBytes_length]

/-- A signed operand read back from its two's complement. -/
theorem signedRead_emod {x : Int} (h : signedFits x = true) : signedRead 32 (x % 4294967296).toNat = x := by
  obtain ⟨hlow, hhigh⟩ := Bool.and_eq_true_iff.mp h
  rw [decide_eq_true_eq] at hlow hhigh
  unfold signedRead
  norm_num
  split <;> omega

theorem fits_toNat {n w : Nat} (h : 256 ^ n = 2 ^ w) (x : BitVec w) : fits n x.toNat = true :=
  decide_eq_true (h ▸ x.isLt)

/-! ### Tables of operands -/

theorem conversionAt_bytes {a : ConversionArgs} (h : conversionFits a = true) (q : Nat) :
    conversionAt (leBytes 1 q ++ conversionBytes a) = a := by
  have hsigned : fits 4 (BitVec.ofInt 32 a.offset).toNat = true := fits_toNat rfl _
  simp only [conversionFits, Bool.and_eq_true] at h
  obtain ⟨⟨⟨⟨⟨⟨⟨⟨⟨⟨⟨⟨⟨⟨h1, h2⟩, h3⟩, h4⟩, h5⟩, h6⟩, h7⟩, h8⟩, h9⟩, h10⟩, h11⟩, h12⟩, h13⟩, h14⟩, h15⟩ := h
  cases a
  simp_all [conversionAt, conversionBytes, signedAt, signedOperand, readLe_skip, readLe_head, readLe_all, optAt_skip,
    optAt_head, leBytes_length, optOperand_length, signedRead_emod]

theorem geometryAt_bytes {g : Geometry} (h : geometryFits g = true) : geometryAt (geometryBytes g) = g := by
  simp only [geometryFits, Bool.and_eq_true] at h
  obtain ⟨⟨⟨⟨⟨⟨⟨⟨⟨h1, h2⟩, h3⟩, h4⟩, h5⟩, h6⟩, h7⟩, h8⟩, h9⟩, h10⟩ := h
  cases g
  simp_all [geometryAt, geometryBytes, readLe_skip, readLe_head, readLe_all, leBytes_length]

theorem speedsAt_bytes {x : SpeedSettings} (h : speedsFit x = true) : speedsAt (speedBytes x) = x := by
  simp only [speedsFit, Bool.and_eq_true] at h
  obtain ⟨⟨⟨⟨⟨⟨⟨⟨⟨h1, h2⟩, h3⟩, h4⟩, h5⟩, h6⟩, h7⟩, h8⟩, h9⟩, h10⟩ := h
  cases x
  simp_all [speedsAt, speedBytes, readLe_skip, readLe_head, readLe_all, leBytes_length]

theorem zoneAt_bytes {a : ZoneArgs} (h : zoneFits a = true) (z : Nat) : zoneAt (leBytes 1 z ++ zoneFieldBytes a) = a := by
  simp only [zoneFits, Bool.and_eq_true] at h
  obtain ⟨⟨⟨⟨⟨⟨⟨⟨⟨⟨⟨h1, h2⟩, h3⟩, h4⟩, h5⟩, h6⟩, h7⟩, h8⟩, h9⟩, h10⟩, h11⟩, h12⟩ := h
  cases a
  simp_all [zoneAt, zoneFieldBytes, readLe_skip, readLe_head, readLe_all, optAt_skip, optAt_head, leBytes_length,
    optOperand_length]

theorem selectionAt_bytes (x : NoticeSet) : selectionAt (leBytes 5 x.toNat) = x := by
  rw [selectionAt, readLe_all (fits_toNat rfl x), BitVec.ofNat_toNat, BitVec.setWidth_eq]

/-! ### Lists of operands -/

/-- The bytes of a pair of SET_LINES. -/
def pairBytes (p : Nat × Nat) : List Byte := leBytes 1 p.1 ++ leBytes 1 p.2

theorem pairsAt_bytes {ps : List (Nat × Nat)} (h : ∀ p ∈ ps, fits 1 p.1 = true ∧ fits 1 p.2 = true) (pre : List Byte) :
    pairsAt (pre ++ ps.flatMap pairBytes) pre.length ps.length = ps := by
  induction ps generalizing pre with
  | nil => rfl
  | cons p ps ih =>
    obtain ⟨hfirst, hsecond⟩ := h p (List.mem_cons_self ..)
    have hrest := ih (fun q hq => h q (List.mem_cons_of_mem _ hq)) (pre ++ pairBytes p)
    have hlength : (pre ++ pairBytes p).length = pre.length + 2 := by simp [pairBytes, leBytes_length]
    rw [hlength, List.append_assoc] at hrest
    rw [List.flatMap_cons, List.length_cons, pairsAt, hrest]
    simp [pairBytes, readLe_skip, readLe_head, leBytes_length, hfirst, hsecond]

theorem pairs_bytes_length (ps : List (Nat × Nat)) : (ps.flatMap pairBytes).length = 2 * ps.length := by
  induction ps with
  | nil => rfl
  | cons p ps ih =>
    rw [List.flatMap_cons, List.length_append, ih, List.length_cons, show (pairBytes p).length = 2 from rfl]
    omega

theorem foldGroupBytes_length (g : FoldGroup) : (foldGroupBytes g).length = 12 := rfl

theorem foldGroupAt_bytes {g : FoldGroup} (h : foldGroupFits g = true) (pre post : List Byte) :
    foldGroupAt (pre ++ (foldGroupBytes g ++ post)) pre.length = g := by
  simp only [foldGroupFits, Bool.and_eq_true] at h
  obtain ⟨⟨⟨⟨⟨h1, h2⟩, h3⟩, h4⟩, h5⟩, h6⟩ := h
  cases g
  simp_all [foldGroupAt, foldGroupBytes, readLe_skip, readLe_head, leBytes_length]

theorem foldGroupsAt_bytes {gs : List FoldGroup} (h : ∀ g ∈ gs, foldGroupFits g = true) (pre : List Byte) :
    foldGroupsAt (pre ++ gs.flatMap foldGroupBytes) pre.length gs.length = gs := by
  induction gs generalizing pre with
  | nil => rfl
  | cons g gs ih =>
    have hrest := ih (fun q hq => h q (List.mem_cons_of_mem _ hq)) (pre ++ foldGroupBytes g)
    rw [List.length_append, foldGroupBytes_length, List.append_assoc] at hrest
    rw [List.flatMap_cons, List.length_cons, foldGroupsAt, hrest, foldGroupAt_bytes (h g (List.mem_cons_self ..))]

theorem groups_bytes_length (gs : List FoldGroup) : (gs.flatMap foldGroupBytes).length = 12 * gs.length := by
  induction gs with
  | nil => rfl
  | cons g gs ih =>
    rw [List.flatMap_cons, List.length_append, ih, List.length_cons, foldGroupBytes_length]
    omega

/-- The bytes of a pattern's operands before its groups. -/
def patternHead (n : Nat) (a : PatternArgs) : List Byte :=
  leBytes 1 n ++ (leBytes 4 a.leadIn ++ (leBytes 4 a.leadOut ++ (leBytes 2 a.minDwell ++ (leBytes 2 a.maxDwell
    ++ (leBytes 2 a.tolerance ++ (leBytes 1 a.lotClass ++ leBytes 1 a.groups.length))))))

theorem patternHead_length (n : Nat) (a : PatternArgs) : (patternHead n a).length = 17 := rfl

theorem patternBytes_eq (n : Nat) (a : PatternArgs) :
    leBytes 1 n ++ patternBytes a = patternHead n a ++ a.groups.flatMap foldGroupBytes := by
  simp [patternBytes, patternHead]

/-- A pattern's operands fit, one by one. -/
theorem patternFits_iff (a : PatternArgs) : patternFits a = true ↔ fits 4 a.leadIn = true ∧ fits 4 a.leadOut = true
    ∧ fits 2 a.minDwell = true ∧ fits 2 a.maxDwell = true ∧ fits 2 a.tolerance = true ∧ fits 1 a.lotClass = true
    ∧ a.groups.length ≤ 14 ∧ ∀ g ∈ a.groups, foldGroupFits g = true := by
  simp [patternFits, and_assoc]

theorem patternAt_bytes {a : PatternArgs} (h : patternFits a = true) (n : Nat) :
    Decode.patternAt (leBytes 1 n ++ patternBytes a) = a
      ∧ readLe (leBytes 1 n ++ patternBytes a) 16 1 = a.groups.length := by
  obtain ⟨h1, h2, h3, h4, h5, h6, hlength, hgroups⟩ := (patternFits_iff a).mp h
  have h7 : fits 1 a.groups.length = true := decide_eq_true (by omega)
  have hcount : readLe (leBytes 1 n ++ patternBytes a) 16 1 = a.groups.length := by
    simp [patternBytes, readLe_skip, readLe_head, leBytes_length, h7]
  have hlist : foldGroupsAt (leBytes 1 n ++ patternBytes a) 17 a.groups.length = a.groups := by
    rw [patternBytes_eq]
    exact foldGroupsAt_bytes hgroups (patternHead n a)
  refine ⟨?_, hcount⟩
  rw [Decode.patternAt, hcount, hlist]
  cases a
  simp_all [patternBytes, readLe_skip, readLe_head, leBytes_length]

/-- The bytes of one line's setup. -/
def lineBytes (l : LineArgs) : List Byte := leBytes 1 l.polarity ++ leBytes 1 l.mode ++ leBytes 1 l.function

theorem lineBytes_length (l : LineArgs) : (lineBytes l).length = 3 := rfl

theorem lines_bytes_length (ls : List LineArgs) : (ls.flatMap lineBytes).length = 3 * ls.length := by
  induction ls with
  | nil => rfl
  | cons l ls ih =>
    rw [List.flatMap_cons, List.length_append, ih, List.length_cons, lineBytes_length]
    omega

theorem lineAt_bytes {ls : List LineArgs}
    (h : ∀ l ∈ ls, fits 1 l.polarity = true ∧ fits 1 l.mode = true ∧ fits 1 l.function = true) (pre : List Byte) (i : Nat)
    (hi : i < ls.length) : lineAt (pre ++ ls.flatMap lineBytes) (pre.length + 3 * i) = ls[i] := by
  induction ls generalizing pre i with
  | nil => cases hi
  | cons l ls ih =>
    obtain ⟨hp, hm, hf⟩ := h l (List.mem_cons_self ..)
    rw [List.flatMap_cons]
    cases i with
    | zero =>
      cases l
      simp_all [lineAt, lineBytes, readLe_skip, readLe_head, leBytes_length]
    | succ i =>
      have hrest := ih (fun q hq => h q (List.mem_cons_of_mem _ hq)) (pre ++ lineBytes l) i (Nat.lt_of_succ_lt_succ hi)
      rw [List.length_append, lineBytes_length, List.append_assoc] at hrest
      rw [show pre.length + 3 * (i + 1) = pre.length + 3 + 3 * i by omega, hrest]
      rfl

/-- A group's setup operands fit, one by one. -/
theorem groupSetupFits_iff (a : GroupArgs) : groupSetupFits a = true ↔ fits 1 a.lock = true ∧ optFits 1 a.inhibit = true
    ∧ ∀ l ∈ a.lines.toList, fits 1 l.polarity = true ∧ fits 1 l.mode = true ∧ fits 1 l.function = true := by
  simp only [groupSetupFits, Bool.and_eq_true, List.all_eq_true, and_assoc]

theorem groupSetup_bytes_eq (g : Nat) (a : GroupArgs) : leBytes 1 g ++ groupSetupBytes a =
    (leBytes 1 g ++ (leBytes 1 a.lock ++ optOperand 1 a.inhibit)) ++ a.lines.toList.flatMap lineBytes := by
  simp only [groupSetupBytes, List.append_assoc]
  rfl

theorem groupAt_bytes {a : GroupArgs} (h : groupSetupFits a = true) (g : Nat) :
    groupAt (leBytes 1 g ++ groupSetupBytes a) = a := by
  obtain ⟨hlock, hinhibit, hlines⟩ := (groupSetupFits_iff a).mp h
  have hpre : (leBytes 1 g ++ (leBytes 1 a.lock ++ optOperand 1 a.inhibit)).length = 4 := by
    simp [leBytes_length, optOperand_length]
  have hline : ∀ i : Fin 8, lineAt (leBytes 1 g ++ groupSetupBytes a) (4 + 3 * i.val) = a.lines[i] := fun i => by
    have := lineAt_bytes hlines (leBytes 1 g ++ (leBytes 1 a.lock ++ optOperand 1 a.inhibit)) i.val
      (by simp)
    rw [hpre, ← groupSetup_bytes_eq] at this
    exact this.trans (by simp)
  rw [groupAt, funext hline]
  have hvector : Vector.ofFn (fun i : Fin 8 => a.lines[i]) = a.lines := Vector.ext fun i hi => by simp
  rw [hvector]
  cases a
  simp_all [groupSetupBytes, readLe_skip, readLe_head, optAt_skip, optAt_head, leBytes_length]

/-! ### Every request -/

/-- The payload of a request reads back as it, by its code. -/
def ReadsBack (i : Instr) : Prop :=
  ∀ code payload, requestBytes i = some (code, payload) →
    parseRequest code payload = .ok i ∧ 1 ≤ code ∧ code ≤ 48 ∧ payload.length ≤ 192

theorem readsBack_of {i : Instr} {code : Nat} {payload : List Byte} (hbytes : requestBytes i = some (code, payload))
    (hparse : parseRequest code payload = .ok i) (hcode : 1 ≤ code ∧ code ≤ 48) (hlength : payload.length ≤ 192) :
    ReadsBack i := by
  intro c p h
  cases hbytes.symm.trans h
  exact ⟨hparse, hcode.1, hcode.2, hlength⟩

/-- A request without operands. -/
theorem readsBack_bare {i : Instr} {code : Nat} (hbytes : requestBytes i = some (code, []))
    (hparse : parseRequest code [] = .ok i) (hcode : 1 ≤ code ∧ code ≤ 48) : ReadsBack i :=
  readsBack_of hbytes hparse hcode (Nat.zero_le _)

theorem not_request {i : Instr} (h : requestBytes i = none) : ReadsBack i := by
  intro c p hc
  rw [h] at hc
  cases hc

theorem sized_ok {n : Nat} {p : List Byte} {i j : Instr} (hlength : p.length = n) (h : i = j) : sized n p i = .ok j := by
  rw [sized, if_pos hlength, h]

theorem readsBack_sized {i j : Instr} {code n : Nat} {payload : List Byte}
    (hbytes : requestBytes i = some (code, payload)) (hparse : parseRequest code payload = sized n payload j)
    (hcode : 1 ≤ code ∧ code ≤ 48) (hn : n ≤ 192) (hlength : payload.length = n) (hread : j = i) : ReadsBack i :=
  readsBack_of hbytes (hparse.trans (sized_ok hlength hread)) hcode (hlength ▸ hn)

theorem setLines_readsBack {ps : List (Nat × Nat)} (h : wellFormed (.setLines ps) = true) : ReadsBack (.setLines ps) := by
  obtain ⟨hcount, hpairs⟩ := Bool.and_eq_true_iff.mp h
  have hcount' : ps.length ≤ 95 := of_decide_eq_true hcount
  have hfits : ∀ p ∈ ps, fits 1 p.1 = true ∧ fits 1 p.2 = true := fun p hp =>
    Bool.and_eq_true_iff.mp (List.all_eq_true.mp hpairs p hp)
  have hlength : (leBytes 1 ps.length ++ ps.flatMap pairBytes).length = 1 + 2 * ps.length := by
    rw [List.length_append, leBytes_length, pairs_bytes_length]
  have hread : readLe (leBytes 1 ps.length ++ ps.flatMap pairBytes) 0 1 = ps.length :=
    readLe_head (decide_eq_true (by omega)) _
  have hlist : pairsAt (leBytes 1 ps.length ++ ps.flatMap pairBytes) 1 ps.length = ps :=
    pairsAt_bytes hfits (leBytes 1 ps.length)
  refine readsBack_of (code := 11) (payload := leBytes 1 ps.length ++ ps.flatMap pairBytes) rfl ?_ (by decide) (by omega)
  unfold parseRequest
  rw [hread, hlist, if_neg (by omega)]
  exact sized_ok hlength rfl

theorem writePattern_readsBack {n : Nat} {a : PatternArgs} (h : wellFormed (.writePattern n a) = true) :
    ReadsBack (.writePattern n a) := by
  obtain ⟨hn, ha⟩ := Bool.and_eq_true_iff.mp h
  obtain ⟨-, -, -, -, -, -, hcount, -⟩ := (patternFits_iff a).mp ha
  obtain ⟨hpattern, hgroups⟩ := patternAt_bytes ha n
  have hlength : (leBytes 1 n ++ patternBytes a).length = 17 + 12 * a.groups.length := by
    rw [patternBytes_eq, List.length_append, groups_bytes_length, patternHead_length]
  refine readsBack_of (code := 14) (payload := leBytes 1 n ++ patternBytes a) rfl ?_ (by decide) (by omega)
  unfold parseRequest
  rw [hpattern, hgroups, if_neg (by omega), readLe_head hn]
  exact sized_ok hlength rfl

end Sys2Proof.Proofs

/-! Every request reads back (O23), and a frame carries out its request (O22). -/

namespace Sys2Proof.Proofs

open Machine Statements Safety Decode

/-! ### Requests of a few numbers -/

theorem readsBack_byte {i : Instr} {code n : Nat} {j : Nat → Instr} (h : fits 1 n = true)
    (hbytes : requestBytes i = some (code, leBytes 1 n))
    (hparse : ∀ p, parseRequest code p = sized 1 p (j (readLe p 0 1)))
    (hcode : 1 ≤ code ∧ code ≤ 48) (hread : j n = i) : ReadsBack i :=
  readsBack_sized hbytes (hparse _) hcode (by decide) (leBytes_length 1 n) (by rw [readLe_all h, hread])

theorem readsBack_two_bytes {i : Instr} {code m n : Nat} {j : Nat → Nat → Instr} (hm : fits 1 m = true)
    (hn : fits 1 n = true) (hbytes : requestBytes i = some (code, leBytes 1 m ++ leBytes 1 n))
    (hparse : ∀ p, parseRequest code p = sized 2 p (j (readLe p 0 1) (readLe p 1 1)))
    (hcode : 1 ≤ code ∧ code ≤ 48) (hread : j m n = i) : ReadsBack i :=
  readsBack_sized hbytes (hparse _) hcode (by decide) rfl
    (by rw [readLe_head hm, readLe_skip (by simp [leBytes_length]), leBytes_length, readLe_all hn, hread])

theorem readsBack_four_bytes {i : Instr} {code a b c d : Nat} {j : Nat → Nat → Nat → Nat → Instr}
    (ha : fits 1 a = true) (hb : fits 1 b = true) (hc : fits 1 c = true) (hd : fits 1 d = true)
    (hbytes : requestBytes i = some (code, leBytes 1 a ++ leBytes 1 b ++ leBytes 1 c ++ leBytes 1 d))
    (hparse : ∀ p, parseRequest code p = sized 4 p (j (readLe p 0 1) (readLe p 1 1) (readLe p 2 1) (readLe p 3 1)))
    (hcode : 1 ≤ code ∧ code ≤ 48) (hread : j a b c d = i) : ReadsBack i :=
  readsBack_sized hbytes (hparse _) hcode (by decide) rfl
    (by simp [readLe_skip, readLe_head, readLe_all, leBytes_length, ha, hb, hc, hd, hread])

/-- The payload of a request of a few numbers has the length R197 gives it, and reads back. -/
theorem writeFoldKind_readsBack {k m l a : Nat} (h : wellFormed (.writeFoldKind k m l a) = true) :
    ReadsBack (.writeFoldKind k m l a) := by
  simp only [wellFormed, Bool.and_eq_true] at h
  obtain ⟨⟨⟨hk, hm⟩, hl⟩, ha⟩ := h
  refine readsBack_sized rfl rfl (by decide) (by decide : 5 ≤ 192) rfl ?_
  simp [readLe_skip, readLe_head, readLe_all, leBytes_length, hk, hm, hl, ha]

theorem appendRun_readsBack {p c t : Nat} (h : wellFormed (.appendRun p c t) = true) : ReadsBack (.appendRun p c t) := by
  simp only [wellFormed, Bool.and_eq_true] at h
  obtain ⟨⟨hp, hc⟩, ht⟩ := h
  refine readsBack_sized rfl rfl (by decide) (by decide : 5 ≤ 192) rfl ?_
  simp [readLe_skip, readLe_head, readLe_all, leBytes_length, hp, hc, ht]

theorem loadRoll_readsBack {n t c k d : Nat} (h : wellFormed (.loadRoll n t c k d) = true) :
    ReadsBack (.loadRoll n t c k d) := by
  simp only [wellFormed, Bool.and_eq_true] at h
  obtain ⟨⟨⟨⟨hn, ht⟩, hc⟩, hk⟩, hd⟩ := h
  refine readsBack_sized rfl rfl (by decide) (by decide : 8 ≤ 192) rfl ?_
  simp [readLe_skip, readLe_head, readLe_all, leBytes_length, hn, ht, hc, hk, hd]

theorem writeSpliceSettings_readsBack {t m p : Nat} (h : wellFormed (.writeSpliceSettings t m p) = true) :
    ReadsBack (.writeSpliceSettings t m p) := by
  simp only [wellFormed, Bool.and_eq_true] at h
  obtain ⟨⟨ht, hm⟩, hp⟩ := h
  refine readsBack_sized rfl rfl (by decide) (by decide : 8 ≤ 192) rfl ?_
  simp [readLe_skip, readLe_head, readLe_all, leBytes_length, ht, hm, hp]

theorem setCycle_readsBack {p n : Nat} (h : wellFormed (.setCycle p n) = true) : ReadsBack (.setCycle p n) := by
  obtain ⟨hp, hn⟩ := Bool.and_eq_true_iff.mp h
  refine readsBack_sized rfl rfl (by decide) (by decide : 4 ≤ 192) rfl ?_
  simp [readLe_skip, readLe_head, readLe_all, leBytes_length, hp, hn]

/-! ### Requests with optional operands and tables -/

theorem writeWindow_readsBack {d n : Nat} {b : WindowArg} (h : wellFormed (.writeWindow d n b) = true) :
    ReadsBack (.writeWindow d n b) := by
  simp only [wellFormed, Bool.and_eq_true] at h
  obtain ⟨⟨hd, hn⟩, hb⟩ := h
  refine readsBack_sized rfl rfl (by decide) (by decide : 7 ≤ 192) ?_ ?_
  · simp [leBytes_length, windowOperand_length]
  · rw [List.append_assoc, windowAt_operand hb]
    simp [readLe_skip, readLe_head, leBytes_length, hd, hn]

theorem writeCommandMap_readsBack {f : Nat} {o : OptArg} (h : wellFormed (.writeCommandMap f o) = true) :
    ReadsBack (.writeCommandMap f o) := by
  obtain ⟨hf, ho⟩ := Bool.and_eq_true_iff.mp h
  refine readsBack_sized rfl rfl (by decide) (by decide : 4 ≤ 192) ?_ ?_
  · simp [leBytes_length, optOperand_length]
  · simp [readLe_head, optAt_skip, optAt_all, leBytes_length, hf, ho]

theorem collect_readsBack {e : OptArg} (h : wellFormed (.collect e) = true) : ReadsBack (.collect e) :=
  readsBack_sized (n := 2) rfl rfl (by decide) (by decide) (optOperand_length 1 e) (congrArg Instr.collect (optAt_all h))

theorem writeConversion_readsBack {q : Nat} {a : ConversionArgs} (h : wellFormed (.writeConversion q a) = true) :
    ReadsBack (.writeConversion q a) := by
  obtain ⟨hq, ha⟩ := Bool.and_eq_true_iff.mp h
  refine readsBack_sized rfl rfl (by decide) (by decide : 27 ≤ 192) ?_ ?_
  · simp [conversionBytes, signedOperand, leBytes_length, optOperand_length]
  · rw [conversionAt_bytes ha, readLe_head hq]

theorem writeLineSetup_readsBack {g : Nat} {a : GroupArgs} (h : wellFormed (.writeLineSetup g a) = true) :
    ReadsBack (.writeLineSetup g a) := by
  obtain ⟨hg, ha⟩ := Bool.and_eq_true_iff.mp h
  refine readsBack_sized rfl rfl (by decide) (by decide : 28 ≤ 192) ?_ ?_
  · rw [groupSetup_bytes_eq, List.length_append, lines_bytes_length]
    simp [leBytes_length, optOperand_length]
  · rw [groupAt_bytes ha, readLe_head hg]

theorem writeZone_readsBack {z : Nat} {a : ZoneArgs} (h : wellFormed (.writeZone z a) = true) :
    ReadsBack (.writeZone z a) := by
  obtain ⟨hz, ha⟩ := Bool.and_eq_true_iff.mp h
  refine readsBack_sized rfl rfl (by decide) (by decide : 30 ≤ 192) ?_ ?_
  · simp [zoneFieldBytes, leBytes_length, optOperand_length]
  · rw [zoneAt_bytes ha, readLe_head hz]

/-- Settles O23: each request by its code. -/
theorem requestPayloadsReadBack : Obligations.RequestPayloadsReadBack := by
  intro i code payload hwell hbytes
  suffices h : ReadsBack i from h code payload hbytes
  cases i with
  | powerOn | cycleFrame | syncComplete | badFrameRunFault | silenceTimeout | faultRecovery | quantityStale
  | foldCompletion | zoneSettled | matchComplete | matchTimeout | pasteTimeout | trimAtLimitCount => exact not_request rfl
  | goActive | goListen | resync | readLines | cancelRuns | readOrders | holdPanels | releasePanels | enterConfig
  | leaveConfig | start | stop | ackHalt | readZones | spliceCancel | readRolls | readNotices | raiseTest =>
    exact readsBack_bare rfl rfl (by decide)
  | identify c => exact readsBack_byte (j := .identify) hwell rfl (fun _ => rfl) (by decide) rfl
  | readPattern n => exact readsBack_byte (j := .readPattern) hwell rfl (fun _ => rfl) (by decide) rfl
  | deletePattern n => exact readsBack_byte (j := .deletePattern) hwell rfl (fun _ => rfl) (by decide) rfl
  | setOrderLow t => exact readsBack_byte (j := .setOrderLow) hwell rfl (fun _ => rfl) (by decide) rfl
  | readList l => exact readsBack_byte (j := .readList) hwell rfl (fun _ => rfl) (by decide) rfl
  | readRecord k => exact readsBack_byte (j := .readRecord) hwell rfl (fun _ => rfl) (by decide) rfl
  | unloadRoll n => exact readsBack_byte (j := .unloadRoll) hwell rfl (fun _ => rfl) (by decide) rfl
  | readQuantity q m =>
    obtain ⟨hq, hm⟩ := Bool.and_eq_true_iff.mp hwell
    exact readsBack_two_bytes (j := .readQuantity) hq hm rfl (fun _ => rfl) (by decide) rfl
  | zoneEnable z x =>
    obtain ⟨hz, hx⟩ := Bool.and_eq_true_iff.mp hwell
    exact readsBack_two_bytes (j := .zoneEnable) hz hx rfl (fun _ => rfl) (by decide) rfl
  | writeNoticeRoute n e c g =>
    simp only [wellFormed, Bool.and_eq_true] at hwell
    obtain ⟨⟨⟨hn, he⟩, hc⟩, hg⟩ := hwell
    exact readsBack_four_bytes (j := .writeNoticeRoute) hn he hc hg rfl (fun _ => rfl) (by decide) rfl
  | writeWindow d n b => exact writeWindow_readsBack hwell
  | writeCommandMap f o => exact writeCommandMap_readsBack hwell
  | setCycle p n => exact setCycle_readsBack hwell
  | writeConversion q a => exact writeConversion_readsBack hwell
  | writeLineSetup g a => exact writeLineSetup_readsBack hwell
  | setLines ps => exact setLines_readsBack hwell
  | writeFoldKind k m l a => exact writeFoldKind_readsBack hwell
  | writePattern n a => exact writePattern_readsBack hwell
  | appendRun p c t => exact appendRun_readsBack hwell
  | writeGeometry g =>
    exact readsBack_sized rfl rfl (by decide) (by decide : 40 ≤ 192) rfl (congrArg Instr.writeGeometry (geometryAt_bytes hwell))
  | collect e => exact collect_readsBack hwell
  | setSpeed v => exact readsBack_sized (n := 4) rfl rfl (by decide) (by decide) rfl (congrArg Instr.setSpeed (readLe_all hwell))
  | writeSpeedLimits x =>
    exact readsBack_sized rfl rfl (by decide) (by decide : 36 ≤ 192) rfl (congrArg Instr.writeSpeedLimits (speedsAt_bytes hwell))
  | writeZone z a => exact writeZone_readsBack hwell
  | setPressureMin m =>
    exact readsBack_sized (n := 2) rfl rfl (by decide) (by decide) rfl (congrArg Instr.setPressureMin (readLe_all hwell))
  | loadRoll n t c k d => exact loadRoll_readsBack hwell
  | writeSpliceSettings t m p => exact writeSpliceSettings_readsBack hwell
  | setReportMask x =>
    exact readsBack_sized rfl rfl (by decide) (by decide : 5 ≤ 192) rfl (congrArg Instr.setReportMask (selectionAt_bytes x))
  | clearNotices x =>
    exact readsBack_sized rfl rfl (by decide) (by decide : 5 ≤ 192) rfl (congrArg Instr.clearNotices (selectionAt_bytes x))
  | resetRun => exact readsBack_of rfl rfl (by decide) (by decide)
  | resetFull => exact readsBack_of rfl rfl (by decide) (by decide)

/-! ### The service exchange (R16, R197, R198) -/

/-- A request's code and payload in a frame are handled as the request. -/
theorem handleRequest_eq {f : Frame} {i : Instr} {code : Nat} {payload : List Byte} (hwell : wellFormed i = true)
    (hbytes : requestBytes i = some (code, payload)) (hcode : f.code = byte code)
    (hpayload : f.payload.toList.take f.payloadLength.toNat = payload) (s : State) : handleRequest f s = serve i s := by
  obtain ⟨hparse, -, hmax, -⟩ := requestPayloadsReadBack i code payload hwell hbytes
  have hnumber : f.code.toNat = code := by
    rw [hcode, byte, BitVec.toNat_ofNat]
    omega
  rw [handleRequest, requestPayload, hnumber, hpayload, hparse]

theorem addressed_of_request {p : RingPort} {f : Frame} {code : Nat} (hcode : f.code = byte code) (hpos : 1 ≤ code)
    (hmax : code ≤ 48) (htarget : f.target.toNat = p.address.toNat) : addressed p f = true := by
  have hne : f.code ≠ 0 := by
    rw [hcode, byte]
    intro h
    have := congrArg BitVec.toNat h
    have hzero : (0 : BitVec 8).toNat = 0 := rfl
    rw [BitVec.toNat_ofNat, hzero] at this
    omega
  exact Bool.and_eq_true_iff.mpr ⟨decide_eq_true htarget, decide_eq_true hne⟩

/-- A request commands as it is served, in LISTEN and ACTIVE. -/
theorem exec_serves {i : Instr} {code : Nat} {payload : List Byte} (hbytes : requestBytes i = some (code, payload))
    {s : State} (hs : Served s) : exec i s = .next ((serve i s).1.withReply (some (serve i s).2)) := by
  rw [exec_request i (by rw [hbytes]; rfl), take_served (serves_of_served hs)]

theorem arrival_served {f : Frame} {s : State} (h : Served s) : Served (arrival f s) := by
  unfold Served
  rw [arrival_port]
  exact h

/-- The frame of an exchange: the written slots, the reply space, and a fresh trailer (R16, R201). -/
theorem finishArrival_request {f : Frame} {s : State} {i : Instr} (haddressed : addressed s.port f = true)
    (hrequest : handleRequest f s = serve i s) : finishArrival f s =
      ((serve i s).1.withReply (some (serve i s).2)).withDownstream
        (some (withFreshCrc (withReplySpace { f with slots := writtenSlots s f.slots } (serve i s).2))) := by
  rw [finishArrival, if_pos haddressed, hrequest]

/-- Settles O22: the payload reads back as the request, and the exchange serves it on the state of the arrival. -/
theorem frameCarriesOutItsRequest : Obligations.FrameCarriesOutItsRequest := by
  intro rx s i code payload htime hs hgood hwell hbytes htarget hcode hpayload
  obtain ⟨-, hpos, hmax, -⟩ := requestPayloadsReadBack i code payload hwell hbytes
  have hwork : frameWork rx.frame (takeIn rx s) = arrival rx.frame (takeIn rx s) :=
    frameWork_arrival (s := takeIn rx s) hs hgood
  have hserved : Served (arrival rx.frame (takeIn rx s)) := arrival_served (s := takeIn rx s) hs
  have haddress : (arrival rx.frame (takeIn rx s)).port.address = s.port.address := (arrival_settings _ _).1
  have hreceive : receive rx s = finishArrival rx.frame (arrival rx.frame (takeIn rx s)) := by
    rw [receive, atReception_in_time htime]
    exact handleFrame_arrival (s := takeIn rx s) hgood (serves_of_served hs)
  generalize arrival rx.frame (takeIn rx s) = w at *
  have hrequest := addressed_of_request (p := w.port) hcode hpos hmax (haddress ▸ htarget)
  rw [finishArrival_request hrequest (handleRequest_eq hwell hbytes hcode hpayload w)] at hreceive
  refine ⟨w, (serve i w).1, (serve i w).2, hwork.symm, exec_serves hbytes hserved, ?_⟩
  generalize serve i w = r at *
  rintro f rfl
  exact congrArg Host.Outcome.next hreceive

end Sys2Proof.Proofs

/-! Every step keeps the fixed routes, the silence deadline's law and the valves in range (O44). -/

namespace Sys2Proof.Proofs

open Machine Statements Safety

/-! ### The three laws -/

/-- What the three laws read of a state. -/
def lawView (s : State) : PortState × Option Nat × Vector Zone 6 × Vector Route 40 :=
  (s.port.state, s.port.deadline, s.tunnel.zones, s.notices.routes)

/-- The three laws of O44 carry over from `s` to `t`. -/
structure KeepsLaws (s t : State) : Prop where
  routes : FixedNoticesHalt s → FixedNoticesHalt t
  deadline : DeadlineRunsWhileServing s → DeadlineRunsWhileServing t
  valves : ValvesWithinRange s → ValvesWithinRange t

theorem KeepsLaws.trans {s t u : State} (h : KeepsLaws s t) (h' : KeepsLaws t u) : KeepsLaws s u :=
  ⟨h'.routes ∘ h.routes, h'.deadline ∘ h.deadline, h'.valves ∘ h.valves⟩

theorem fixedNoticesHalt_congr {s t : State} (h : t.notices.routes = s.notices.routes) :
    FixedNoticesHalt s → FixedNoticesHalt t := by
  unfold FixedNoticesHalt
  rw [h]
  exact id

theorem deadlineRuns_congr {s t : State} (hstate : t.port.state = s.port.state)
    (hdeadline : t.port.deadline = s.port.deadline) : DeadlineRunsWhileServing s → DeadlineRunsWhileServing t := by
  unfold DeadlineRunsWhileServing
  rw [hstate, hdeadline]
  exact id

theorem ZonesWorked.valves {s t : State} (h : ZonesWorked s t) : ValvesWithinRange s → ValvesWithinRange t :=
  fun hs z => (h z).sound (hs z)

theorem KeepsLaws.of_view {s t : State} (h : lawView t = lawView s) : KeepsLaws s t := by
  obtain ⟨hstate, hrest⟩ := Prod.mk.inj h
  obtain ⟨hdeadline, hrest⟩ := Prod.mk.inj hrest
  obtain ⟨hzones, hroutes⟩ := Prod.mk.inj hrest
  exact ⟨fixedNoticesHalt_congr hroutes, deadlineRuns_congr hstate hdeadline, (ZonesWorked.of_eq hzones).valves⟩

/-- Work that keeps the routes and the zones' law, and leaves a port whose deadline runs as it should. -/
theorem KeepsLaws.of_port {s t : State} (hroutes : t.notices.routes = s.notices.routes)
    (hport : DeadlineRunsWhileServing s → DeadlineRunsWhileServing t) (hzones : ZonesWorked s t) : KeepsLaws s t :=
  ⟨fixedNoticesHalt_congr hroutes, hport, hzones.valves⟩

/-! ### Frames -/

theorem deadlineRuns_of_none {s : State} (hs : ¬Served s) (hd : s.port.deadline = none) : DeadlineRunsWhileServing s := by
  unfold DeadlineRunsWhileServing
  have hserves : portServes s.port.state = false := not_serves_of_not_served hs
  rw [hd]
  exact hserves.symm

theorem deadlineRuns_of_some {s : State} {d : Nat} (hs : Served s) (hd : s.port.deadline = some d) :
    DeadlineRunsWhileServing s := by
  unfold DeadlineRunsWhileServing
  rw [hd]
  exact (serves_of_served hs).symm

/-- Outside LISTEN and ACTIVE the law says that no deadline runs. -/
theorem deadline_none {s : State} (hs : ¬Served s) (h : DeadlineRunsWhileServing s) : s.port.deadline = none := by
  have hserves : portServes s.port.state = false := not_serves_of_not_served hs
  rw [DeadlineRunsWhileServing] at h
  exact Option.isSome_eq_false_iff.mp (h.trans hserves) |> Option.isNone_iff_eq_none.mp

theorem enterFault_keeps (s : State) : KeepsLaws s (enterFault s) := by
  refine .of_port (by simp) (fun _ => deadlineRuns_of_none ?_ ?_) (.of_tunnel_eq (by simp))
  · rw [Served, enterFault_port]
    simp
  · rw [enterFault_port]

theorem expireSilence_keeps (s : State) : KeepsLaws s (expireSilence s) := by
  rw [expireSilence]
  exact (KeepsLaws.of_view (s := s) (t := s.withPort { s.port with lastError := .silence }) rfl).trans (enterFault_keeps _)

theorem atReception_keeps (rx : Reception) (s : State) : KeepsLaws s (atReception rx s) := by
  unfold atReception
  dsimp only
  have htaken : KeepsLaws s (takeIn rx s) := .of_view rfl
  split
  · exact htaken.trans (expireSilence_keeps _)
  · exact htaken

theorem badFrame_keeps (code : ErrorCode) (s : State) : KeepsLaws s (badFrame code s) := by
  have hcounted : KeepsLaws s (ageAll (countBad code s)) := by
    have hport : (ageAll (countBad code s)).port = badCounted code s.port := by rw [(ageAll_frame _).1, countBad_port]
    refine .of_port (by simp) (deadlineRuns_congr ?_ ?_) (.of_tunnel_eq (by simp))
    · rw [hport]; rfl
    · rw [hport]; rfl
  refine hcounted.trans ?_
  rw [badFrame]
  generalize ageAll (countBad code s) = u
  by_cases hs : Served u
  · rw [countBadRun_serving hs]
    split
    · exact .of_view rfl
    · exact (KeepsLaws.of_view (s := u) (t := u.withPort { u.port with runCount := 3 }) rfl).trans (enterFault_keeps _)
  · unfold countBadRun
    split
    · exact .of_view rfl
    · exact .of_view rfl
    · exact .of_view rfl
    · next h => exact absurd (.inl h) hs
    · next h => exact absurd (.inr h) hs

theorem goodCounted_deadline {gap deadline : Option Nat} {p : RingPort} (hs : portServes p.state = false)
    (hd : p.deadline = none) (hdeadline : deadline.isSome = true) :
    (goodCounted gap deadline p).deadline.isSome = portServes (goodCounted gap deadline p).state := by
  unfold goodCounted
  split
  · rw [hd]
    rfl
  · next h =>
    by_cases hn : (if gap = some 1 then min (p.syncCount + 1) 8 else 1) = 8
    · rw [if_pos hn]
      exact hdeadline
    · rw [if_neg hn, hd, hs]
      rfl
  · next h =>
    split
    · exact hdeadline
    · rw [hd, hs]
      rfl
  · next h => rw [h] at hs; cases hs
  · next h => rw [h] at hs; cases hs

theorem goodOutside_keeps {f : Frame} {s : State} (hs : ¬Served s) : KeepsLaws s (goodOutside f s) := by
  refine .of_port (by simp) (fun h => ?_) (.of_tunnel_eq (by simp))
  have hport := examineGood_port f s
  have hcounted := goodCounted_deadline (gap := cycleGap s.port f) (deadline := some (s.timer + 4 * s.port.period))
    (p := (examineGood f s).port) (by rw [hport]; exact not_serves_of_not_served hs)
    (by rw [hport]; exact deadline_none hs h) rfl
  rw [← goodOutside_port] at hcounted
  exact hcounted

theorem arrival_keeps {f : Frame} {s : State} (hs : Served s) : KeepsLaws s (arrival f s) := by
  refine .of_port (by simp) (fun _ => deadlineRuns_of_some (d := s.timer + 4 * s.port.period)
    (arrival_served hs) ?_) (arrival_worked f s)
  rw [arrival_port]

/-! ### Service requests -/

theorem raiseNotice_lawView (n : Notice) (s : State) : lawView (raiseNotice n s) = lawView s := by
  simp [lawView]



theorem raiseWhen_lawView (b : Bool) (n : Notice) (s : State) : lawView (raiseWhen b n s) = lawView s := by
  simp [lawView]

theorem writePattern_lawView (n : Nat) (a : PatternArgs) (s : State) : lawView (writePattern n a s).1 = lawView s := by
  unfold writePattern
  repeat' split
  all_goals first
    | rfl
    | exact raiseWhen_lawView _ _ _

theorem writeFoldKind_lawView (k m l a : Nat) (s : State) : lawView (writeFoldKind k m l a s).1 = lawView s := by
  unfold writeFoldKind
  split
  · rfl
  · split
    · split
      · dsimp only
        split
        · rfl
        · exact raiseWhen_lawView _ _ _
      · rfl
    · rfl

theorem startLine_lawView (s : State) : lawView (startLine s).1 = lawView s := by
  unfold startLine
  split
  · rfl
  · simp [lawView]

theorem stopLine_lawView (s : State) : lawView (stopLine s).1 = lawView s := by
  unfold stopLine
  split
  · simp [lawView]
  · rfl
  all_goals rfl

theorem goActive_keeps (s : State) : KeepsLaws s (goActive s).1 := by
  unfold goActive
  split
  · next hlisten =>
    split
    · exact .of_view rfl
    · refine .of_port rfl (fun h => ?_) (.of_eq rfl)
      unfold DeadlineRunsWhileServing at h ⊢
      rw [hlisten] at h
      exact h
  · exact .of_view rfl

theorem goListen_keeps (s : State) : KeepsLaws s (goListen s).1 := by
  unfold goListen
  split
  · exact .of_view rfl
  · split
    · exact .of_port rfl (fun _ => rfl) (.of_eq rfl)
    · exact .of_view rfl

theorem resync_keeps (s : State) : KeepsLaws s (resync s).1 := by
  unfold resync
  split
  · exact .of_view rfl
  · exact .of_port rfl (fun _ => rfl) (.of_eq rfl)

/-- Writing one zone keeps the laws when the zone written is sound where the old one was. -/
theorem setZone_keeps {s : State} {z : Fin 6} {x : Zone} (h : ZoneSound s.tunnel.zones[z] → ZoneSound x) :
    KeepsLaws s (setZone s z x) := by
  refine ⟨fixedNoticesHalt_congr rfl, deadlineRuns_congr rfl rfl, fun hs y => ?_⟩
  by_cases hy : y = z
  · subst hy
    have hset : (setZone s y x).tunnel.zones[y] = x := by simp [setZone]
    rw [hset]
    exact h (hs y)
  · have hset : (setZone s z x).tunnel.zones[y] = s.tunnel.zones[y] := by
      simp only [setZone, State.withTunnel_tunnel, Fin.getElem_fin]
      exact Vector.getElem_set_ne _ _ fun e => hy (Fin.ext e.symm)
    rw [hset]
    exact hs y

theorem writtenZone_sound {fit : Option ZoneFit} {a : ZoneArgs} {z : Zone} (hfallback : a.fallback ≤ 1000)
    (h : ZoneSound z) : ZoneSound (writtenZone fit a z) := by
  obtain ⟨hopening, hintegrator, -, -⟩ := h
  unfold writtenZone
  cases fit with
  | none => exact ⟨Nat.zero_le _, hintegrator, hfallback, fun _ => ⟨rfl, rfl⟩⟩
  | some f => exact ⟨hopening, hintegrator, hfallback, fun h => absurd h (by simp)⟩

theorem fallback_le {zone : Nat} {a : ZoneArgs} (h : firstFailing (zoneChecks zone a) = none) : a.fallback ≤ 1000 := by
  rw [firstFailing_none] at h
  have hfallback : within 0 1000 a.fallback = true := h _ (by simp [zoneChecks])
  exact ((within_iff _ _ _).mp hfallback).2

theorem writeZone_keeps (n : Nat) (a : ZoneArgs) (s : State) : KeepsLaws s (writeZone n a s).1 := by
  unfold writeZone
  split
  · next hchecks _ =>
    split
    · exact .of_view rfl
    · exact setZone_keeps (writtenZone_sound (fallback_le hchecks))
  · exact .of_view rfl

theorem zoneEnable_keeps (n w : Nat) (s : State) : KeepsLaws s (zoneEnable n w s).1 := by
  unfold zoneEnable
  split
  · next z on _ _ =>
    split
    · exact .of_view rfl
    · next hfit =>
      refine setZone_keeps fun h => ?_
      obtain ⟨hopening, -, hfallback, -⟩ := id h
      cases on with
      | false => exact ⟨Nat.zero_le _, h.2.1, hfallback, fun _ => ⟨rfl, rfl⟩⟩
      | true =>
        rw [if_pos rfl, zoneOn]
        split
        · exact ⟨hopening, Nat.zero_le _, hfallback, fun h => absurd h (by simpa using hfit)⟩
        · exact h
  · exact .of_view rfl

theorem writeNoticeRoute_keeps (n e c g : Nat) (s : State) : KeepsLaws s (writeNoticeRoute n e c g s).1 := by
  unfold writeNoticeRoute
  split
  · next i en cls group _ _ _ _ =>
    split
    · exact .of_view rfl
    · next hprotected =>
      refine ⟨fun h j hj => ?_, deadlineRuns_congr rfl rfl, (ZonesWorked.of_eq rfl).valves⟩
      by_cases hji : j = i
      · subst hji
        have hfixed : isFixed j = true := by simpa [isFixed] using hj
        simp only [hfixed, Bool.true_and, Bool.or_eq_true, Bool.not_eq_true', decide_eq_true_eq, not_or,
          Bool.not_eq_false, not_not] at hprotected
        simpa using hprotected
      · have hkept : (s.notices.routes.set i { enabled := en, cls := cls, group := group })[j] = s.notices.routes[j] :=
          Vector.getElem_set_ne _ _ fun e => hji (Fin.ext e.symm)
        simp only [State.withNotices_notices]
        rw [hkept]
        exact h j hj
  · exact .of_view rfl

theorem clearRun_keeps (s : State) : KeepsLaws s (clearRun s) := by
  refine ⟨fixedNoticesHalt_congr ?_, deadlineRuns_congr ?_ ?_, fun h z => ?_⟩
  · simp [clearRun]
  · simp [clearRun]
  · simp [clearRun]
  · obtain ⟨hopening, -, hfallback, hfit⟩ := h z
    have hzone : (clearRun s).tunnel.zones[z] = { s.tunnel.zones[z] with integrator := 0 } := by
      simp [clearRun, Tunnel.afterRun]
    rw [hzone]
    exact ⟨hopening, Nat.zero_le _, hfallback, hfit⟩

theorem clearFull_keeps (s : State) : KeepsLaws s (clearFull s) := by
  obtain ⟨-, -, -, -, -, hroutes, -, -, hvalves⟩ := lawsHoldAtReset
  exact ⟨fun _ => fixedNoticesHalt_congr (s := State.reset) rfl hroutes, deadlineRuns_congr rfl rfl,
    fun _ => (ZonesWorked.of_eq (s := State.reset) rfl).valves hvalves⟩

theorem serve_keeps (i : Instr) (s : State) : KeepsLaws s (serve i s).1 := by
  cases i
  case goActive => exact goActive_keeps s
  case goListen => exact goListen_keeps s
  case resync => exact resync_keeps s
  case writeZone n a => exact writeZone_keeps n a s
  case zoneEnable n w => exact zoneEnable_keeps n w s
  case writeNoticeRoute n e c g => exact writeNoticeRoute_keeps n e c g s
  case resetRun =>
    rw [serve, resetRun]
    split
    · exact clearRun_keeps s
    · exact .of_view rfl
  case resetFull => exact clearFull_keeps s
  all_goals refine .of_view ?_
  case writeFoldKind k m l a => exact writeFoldKind_lawView k m l a s
  case writePattern n a => exact writePattern_lawView n a s
  case start => exact startLine_lawView s
  case stop => exact stopLine_lawView s
  case raiseTest => exact raiseNotice_lawView .test s
  all_goals
    simp only [serve, identify, writeWindow, writeCommandMap, setCycle, writeConversion, readQuantity, writeLineSetup,
      setLines, readLines, readPattern, deletePattern, appendRun, cancelRuns, readOrders, setHold, setOrderLow,
      writeGeometry, readList, readRecord, collect, enterConfig, leaveConfig, ackHalt, setSpeed, writeSpeedLimits,
      setPressureMin, readZones, loadRoll, unloadRoll, spliceCancel, writeSpliceSettings, readRolls, setReportMask,
      clearNotices, readNotices]
    repeat' split
  all_goals rfl

/-! ### Any frame, any command -/

theorem finishArrival_keeps (f : Frame) (s : State) : KeepsLaws s (finishArrival f s) := by
  unfold finishArrival
  dsimp only
  split
  · have hserved : KeepsLaws s (handleRequest f s).1 := by
      unfold handleRequest
      split
      · exact serve_keeps _ s
      · exact .of_view rfl
    exact hserved.trans (.of_view rfl)
  · exact .of_view rfl

theorem handleFrame_keeps (f : Frame) (s : State) : KeepsLaws s (handleFrame f s) := by
  unfold handleFrame
  split
  · exact (badFrame_keeps _ s).trans (.of_view rfl)
  · split
    · next hs => exact (arrival_keeps ((portServes_iff _).mp hs)).trans (finishArrival_keeps f _)
    · next hs => exact (goodOutside_keeps fun h => hs ((portServes_iff _).mpr h)).trans (.of_view rfl)

theorem receive_keeps (rx : Reception) (s : State) : KeepsLaws s (receive rx s) :=
  (atReception_keeps rx s).trans (handleFrame_keeps _ _)

theorem inFrame_keeps {due : State → State → Bool} {rx : Reception} {s t : State} (h : inFrame due rx s = .next t) :
    KeepsLaws s t := by
  obtain hframe | hnone := inFrame_cases due rx s
  · obtain rfl : receive rx s = t := by simpa [hframe] using h
    exact receive_keeps rx s
  · obtain rfl : s.withReply none = t := by simpa [hnone] using h
    exact .of_view rfl

theorem take_keeps {i : Instr} {s t : State} (h : take (serve i) s = .next t) : KeepsLaws s t := by
  unfold take at h
  split at h
  · obtain rfl : (serve i s).1.withReply (some (serve i s).2) = t := by simpa using h
    exact (serve_keeps i s).trans (.of_view rfl)
  · obtain rfl : s.withReply none = t := by simpa using h
    exact .of_view rfl

theorem silenceTimeout_keeps {s t : State} (h : execSilenceTimeout s = .next t) : KeepsLaws s t := by
  unfold execSilenceTimeout at h
  split at h
  · next d _ =>
    split at h
    · obtain rfl : expireSilence ((s.withReply none).withTimer (max s.timer d)) = t := by simpa using h
      exact (KeepsLaws.of_view (s := s) (t := (s.withReply none).withTimer (max s.timer d)) rfl).trans (expireSilence_keeps _)
    · obtain rfl : s.withReply none = t := by simpa using h
      exact .of_view rfl
  · obtain rfl : s.withReply none = t := by simpa using h
    exact .of_view rfl

theorem foldCompletion_keeps (s : State) : KeepsLaws s (completeRequest (s.withReply none)) :=
  .of_view (by simp [lawView])

/-- POWER_ON leaves every law holding, whatever held before. -/
theorem powerOn_keeps {straps : BitVec 4} {s t : State} (h : execPowerOn straps s = .next t) : KeepsLaws s t := by
  obtain ⟨-, -, -, -, -, hroutes, -, -, hvalves⟩ := lawsHoldAtReset
  have hnotices : t.notices = State.reset.notices := (congrArg State.notices (Host.Outcome.next.inj h)).symm
  have hport : t.port = RingPort.reset straps := (congrArg State.port (Host.Outcome.next.inj h)).symm
  have htunnel : t.tunnel = State.reset.tunnel := (congrArg State.tunnel (Host.Outcome.next.inj h)).symm
  refine ⟨fun _ => fixedNoticesHalt_congr (congrArg Notices.routes hnotices) hroutes, fun _ => ?_,
    fun _ => (ZonesWorked.of_tunnel_eq htunnel).valves hvalves⟩
  unfold DeadlineRunsWhileServing
  rw [hport]
  rfl

theorem exec_keeps {i : Instr} {s t : State} (h : exec i s = .next t) : KeepsLaws s t := by
  by_cases hr : (Decode.requestBytes i).isSome = true
  · rw [exec_request i hr] at h
    exact take_keeps h
  · cases i with
    | powerOn straps => exact powerOn_keeps h
    | cycleFrame rx =>
      obtain rfl : receive rx s = t := Host.Outcome.next.inj h
      exact receive_keeps rx s
    | foldCompletion =>
      obtain rfl : completeRequest (s.withReply none) = t := Host.Outcome.next.inj h
      exact foldCompletion_keeps s
    | silenceTimeout => exact silenceTimeout_keeps h
    | syncComplete rx => exact inFrame_keeps h
    | badFrameRunFault rx => exact inFrame_keeps h
    | faultRecovery rx => exact inFrame_keeps h
    | quantityStale q rx => exact inFrame_keeps h
    | zoneSettled z rx => exact inFrame_keeps h
    | matchComplete rx => exact inFrame_keeps h
    | matchTimeout rx => exact inFrame_keeps h
    | pasteTimeout rx => exact inFrame_keeps h
    | trimAtLimitCount rx => exact inFrame_keeps h
    | _ => exact absurd rfl hr

theorem step_keeps {s t : State} (h : step s = .next t) : KeepsLaws s t := by
  unfold step at h
  split at h
  · obtain rfl : s = t := Host.Outcome.next.inj h
    exact .of_view rfl
  · next c rest _ =>
    exact (KeepsLaws.of_view (s := s) (t := s.withPending rest) rfl).trans (exec_keeps h)

/-- Settles O44: every command keeps the three laws. -/
theorem everyStepKeepsRoutesDeadlineAndValves : Obligations.EveryStepKeepsRoutesDeadlineAndValves :=
  fun _ _ h => ⟨(step_keeps h).routes, (step_keeps h).deadline, (step_keeps h).valves⟩

end Sys2Proof.Proofs

/-! WRITE_PATTERN and WRITE_FOLD_KIND (O8, O10). -/

namespace Sys2Proof.Proofs

open Machine Statements Safety

/-! ### The checks on a pattern -/

theorem groupChecks_eq (g : FoldGroup) : groupChecks g =
    [decide (g.flatLead ≤ 100000), decide (g.kind ≤ 15), decide (1 ≤ g.count ∧ g.count ≤ 250),
     decide (200 ≤ g.pitch ∧ g.pitch ≤ 10000), decide (g.startDepth ≤ 5000), decide (g.endDepth ≤ 5000)] := by
  simp only [groupChecks, within_zero]
  simp only [within_eq_decide]

theorem patternChecks_eq (n : Nat) (a : PatternArgs) : patternChecks n a = patternOperands n a := by
  have hgroups := funext groupChecks_eq
  simp only [patternChecks, patternOperands, within_zero, hgroups]
  simp only [within_eq_decide, Bool.decide_or]

theorem takeUpFailure_eq (kinds : Vector FoldKind 16) (groups : List FoldGroup) :
    takeUpFailure kinds groups = groups.findIdx? fun g => !takesUp kinds g := rfl

theorem takeUpFailure_none {kinds : Vector FoldKind 16} {groups : List FoldGroup}
    (h : ∀ g ∈ groups, takesUp kinds g = true) : takeUpFailure kinds groups = none := by
  rw [takeUpFailure_eq, List.findIdx?_eq_none_iff]
  intro g hg
  rw [h g hg]
  rfl

section

variable {kinds : Vector FoldKind 16} {number leadIn leadOut : Nat} {groups : List FoldGroup}

theorem foldViolation_takeUp {g : Nat} (h : groups.findIdx? (fun g => !takesUp kinds g) = some g) :
    foldViolation kinds number leadIn leadOut groups = some (17, number, g) := by
  rw [foldViolation, takeUpFailure_eq, h]

theorem foldViolation_output (h : ∀ g ∈ groups, takesUp kinds g = true)
    (hlong : 600000 < (computeTotals kinds leadIn leadOut groups).output) :
    foldViolation kinds number leadIn leadOut groups = some (18, number, 0) := by
  rw [foldViolation, takeUpFailure_none h]
  exact if_pos hlong

theorem foldViolation_none (h : ∀ g ∈ groups, takesUp kinds g = true)
    (hlong : (computeTotals kinds leadIn leadOut groups).output ≤ 600000) :
    foldViolation kinds number leadIn leadOut groups = none := by
  rw [foldViolation, takeUpFailure_none h]
  exact if_neg (Nat.not_lt.mpr hlong)

end

/-! ### WRITE_PATTERN (R48 to R50) -/

section

variable {n : Nat} {a : PatternArgs} {s : State}

theorem writePattern_out_of_range {k : Nat} (h : firstFalse (patternOperands n a) = some k) :
    writePattern n a s = refuse s .range 1 k (if 8 < k then (k - 9) / 6 else 0) := by
  rw [← patternChecks_eq, ← firstFailing_eq_firstFalse] at h
  rw [writePattern, h]
  cases ordinal? 48 n <;> rfl

theorem writePattern_violates {p : Fin 48} {v : Violation} (hn : n = p.val + 1)
    (h : firstFalse (patternOperands n a) = none)
    (hv : foldViolation s.store.kinds n a.leadIn a.leadOut a.groups = some v) :
    writePattern n a s = refuse s .range v.1 v.2.1 v.2.2 := by
  rw [← patternChecks_eq, ← firstFailing_eq_firstFalse] at h
  subst hn
  simp only [writePattern, ordinal?_succ, h, hv]

/-- With every check passed, only a pattern in use stands in the way (R50). -/
theorem writePattern_passes {p : Fin 48} (hn : n = p.val + 1) (h : firstFalse (patternOperands n a) = none)
    (hv : foldViolation s.store.kinds n a.leadIn a.leadOut a.groups = none) :
    writePattern n a s = if (patternAt s p).isSome && patternInUse s p then refuse s .inUse else
      (raiseWhen (isClamped s.store.kinds a.groups) .patternClamped
        (s.withStore { s.store with places := s.store.places.set p (some (patternOf s.store.kinds a)) }),
       okay (totalsBytes (patternOf s.store.kinds a))) := by
  rw [← patternChecks_eq, ← firstFailing_eq_firstFalse] at h
  subst hn
  simp only [writePattern, ordinal?_succ, h, hv]
  rfl

end

/-- Settles O8: range, take-up and output length, the in-use test, and the storing, in the order of the checks. -/
theorem writePatternStoresOrRefuses : Obligations.WritePatternStoresOrRefuses := by
  intro n a s hs
  refine ⟨fun k hk => exec_eq_refused rfl hs (writePattern_out_of_range hk), fun p g hn hchecks hg => ?_,
    fun p t hn hchecks htakes ht => ?_⟩
  · exact exec_eq_refused rfl hs (writePattern_violates hn hchecks (foldViolation_takeUp hg))
  · subst ht
    refine ⟨fun hlong => ?_, fun hshort hpresent huse => ?_, fun hshort hfree c hc s' hs' => ?_⟩
    · exact exec_eq_refused rfl hs (writePattern_violates hn hchecks (foldViolation_output htakes hlong))
    · have hguard : ((patternAt s p).isSome && patternInUse s p) = true := by
        rw [(patternInUse_iff_inUse s p).mpr huse, Bool.and_true]
        exact Option.isSome_iff_ne_none.mpr hpresent
      refine exec_eq_refused rfl hs ((writePattern_passes hn hchecks (foldViolation_none htakes hshort)).trans ?_)
      exact if_pos hguard
    · have hguard : ((patternAt s p).isSome && patternInUse s p) = false := by
        obtain hnone | hunused := hfree
        · rw [show patternAt s p = none from hnone]
          rfl
        · rw [Bool.eq_false_iff.mpr (mt (patternInUse_iff_inUse s p).mp hunused), Bool.and_false]
      subst hc hs'
      refine exec_eq_ok_of rfl hs ((writePattern_passes hn hchecks (foldViolation_none htakes hshort)).trans ?_)
        (totalsBytes_eq (patternOf s.store.kinds a))
      rw [hguard]
      rfl

/-! ### WRITE_FOLD_KIND (R43, R44) -/

/-- A pattern passes the take-up and the output length check under a fold kind table (R49). -/
def PassesUnder (kinds : Vector FoldKind 16) (x : Pattern) : Prop :=
  (∀ g ∈ x.groups, takesUp kinds g = true) ∧ (computeTotals kinds x.leadIn x.leadOut x.groups).output ≤ 600000

section

variable {s : State} {k : Fin 16} {kinds : Vector FoldKind 16}

/-- A place whose pattern uses the kind passes the checks. -/
def PlacePasses (s : State) (k : Fin 16) (kinds : Vector FoldKind 16) (q : Fin 48) : Prop :=
  ∀ y, s.store.places[q] = some y → usesKind y k = true → PassesUnder kinds y

theorem kindViolation_skip {q : Fin 48} (rest : List (Fin 48)) (h : PlacePasses s k kinds q) :
    kindViolation s k kinds (q :: rest) = kindViolation s k kinds rest := by
  rw [kindViolation]
  split
  · next y hy =>
    split
    · next huses => rw [foldViolation_none (h y hy huses).1 (h y hy huses).2]
    · rfl
  · rfl

theorem kindViolation_none {l : List (Fin 48)} (h : ∀ q ∈ l, PlacePasses s k kinds q) : kindViolation s k kinds l = none := by
  induction l with
  | nil => rfl
  | cons q rest ih =>
    rw [kindViolation_skip rest (h q List.mem_cons_self)]
    exact ih fun r hr => h r (List.mem_cons_of_mem _ hr)

/-- In an ascending list of places the first that fails gives the violation. -/
theorem kindViolation_first {l : List (Fin 48)} {p : Fin 48} {x : Pattern} {v : Violation} (hl : l.Pairwise (· < ·))
    (hp : p ∈ l) (hx : s.store.places[p] = some x) (huses : usesKind x k = true)
    (hv : foldViolation kinds (patternNumber p) x.leadIn x.leadOut x.groups = some v)
    (hbefore : ∀ q, q < p → PlacePasses s k kinds q) : kindViolation s k kinds l = some v := by
  induction l with
  | nil => cases hp
  | cons q rest ih =>
    obtain ⟨hq, hrest⟩ := List.pairwise_cons.mp hl
    obtain rfl | hmem := List.mem_cons.mp hp
    · rw [kindViolation, show patternAt s p = some x from hx]
      simp only [huses, hv, if_true]
    · rw [kindViolation_skip rest (hbefore q (hq p hmem))]
      exact ih hrest hmem

theorem kindViolation_all (h : ∀ p, PlacePasses s k kinds p) : kindViolation s k kinds (List.finRange 48) = none :=
  kindViolation_none fun q _ => h q

end

section

variable {n m l a : Nat} {s : State}

theorem writeFoldKind_state (hconfigure : s.gov.line ≠ .configure) (hstopped : s.gov.line ≠ .stopped) :
    writeFoldKind n m l a s = refuse s .state := if_pos ⟨hconfigure, hstopped⟩

/-- The kind that an accepted WRITE_FOLD_KIND writes. -/
def writtenKind (m l a : Nat) : FoldKind :=
  { multiplier := m, limit := l,
    actions := { knife := a.testBit 0, tuck := a.testBit 1, reverse := a.testBit 2, mark := a.testBit 3 } }

theorem writeFoldKind_out_of_range (hline : s.gov.line = .configure ∨ s.gov.line = .stopped)
    (h : 16 ≤ n ∨ 4 < m ∨ 5000 < l ∨ 16 ≤ a) : writeFoldKind n m l a s = refuse s .range := by
  have hstate : ¬(s.gov.line ≠ .configure ∧ s.gov.line ≠ .stopped) := by tauto
  rw [writeFoldKind, if_neg hstate]
  split
  · next k x hk hx =>
    have hn : n < 16 := by
      by_contra hn
      rw [index?_none (Nat.not_lt.mp hn)] at hk
      cases hk
    have ha : a < 16 := by
      by_contra ha
      rw [actionsOf, if_neg ha] at hx
      cases hx
    refine if_neg ?_
    rw [within_zero, within_zero, Bool.and_eq_true, decide_eq_true_eq, decide_eq_true_eq]
    omega
  · rfl

/-- With the operands in range, the first violation decides, and without one the table and the places are written. -/
theorem writeFoldKind_in_range {k : Fin 16} {kinds : Vector FoldKind 16}
    (hline : s.gov.line = .configure ∨ s.gov.line = .stopped) (hn : n = k.val) (hm : m ≤ 4) (hl : l ≤ 5000) (ha : a < 16)
    (hkinds : kinds = s.store.kinds.set k (writtenKind m l a)) :
    writeFoldKind n m l a s = match kindViolation s k kinds (List.finRange 48) with
      | some v => refuse s .range v.1 v.2.1 v.2.2
      | none =>
        let places := Vector.ofFn fun p => recomputed k kinds s.store.places[p]
        (raiseWhen ((List.finRange 48).any fun p => !placeClamped s.store.places[p] && placeClamped places[p])
          .patternClamped (s.withStore { kinds := kinds, places := places }),
         okay (leBytes 1 s.store.kinds[k].multiplier ++ leBytes 2 s.store.kinds[k].limit
          ++ leBytes 1 (actionsCode s.store.kinds[k].actions)
          ++ leBytes 1 ((List.finRange 48).filter fun p => totalsChanged s.store.places[p] places[p]).length
          ++ leBytes 1 ((List.finRange 48).filter fun p => placeClamped places[p]).length)) := by
  have hstate : ¬(s.gov.line ≠ .configure ∧ s.gov.line ≠ .stopped) := by tauto
  have hactions : actionsOf a = some (writtenKind m l a).actions := if_pos ha
  have hrange : (within 0 4 m && within 0 5000 l) = true := by
    rw [within_zero, within_zero, Bool.and_eq_true, decide_eq_true_eq, decide_eq_true_eq]
    exact ⟨hm, hl⟩
  subst hn hkinds
  rw [writeFoldKind, if_neg hstate]
  simp only [index?_val, hactions, hrange, if_true]
  rfl

end

theorem recomputed_eq (k : Fin 16) (kinds : Vector FoldKind 16) (o : Option Pattern) :
    recomputed k kinds o = o.map fun x => if usesKind x k then
      { x with totals := computeTotals kinds x.leadIn x.leadOut x.groups, clamped := isClamped kinds x.groups } else x := by
  cases o with
  | none => rfl
  | some x =>
    rw [recomputed]
    split <;> simp_all [withTotals]

theorem placeClamped_eq (o : Option Pattern) : placeClamped o = decide (o.map Pattern.clamped = some true) := by
  cases o with
  | none => rfl
  | some x => simp [placeClamped]

theorem placeClamped_false {o : Option Pattern} {k : Fin 16} {kinds : Vector FoldKind 16} :
    (!placeClamped o && placeClamped (recomputed k kinds o)) = true ↔
      o.map Pattern.clamped = some false ∧ (recomputed k kinds o).map Pattern.clamped = some true := by
  cases o with
  | none => simp [recomputed, placeClamped]
  | some x => simp [placeClamped_eq]

/-- Totals or CLAMPED of a recomputed place changed. -/
theorem totalsChanged_eq (k : Fin 16) (kinds : Vector FoldKind 16) (o : Option Pattern) :
    totalsChanged o (recomputed k kinds o) =
      decide (o.map (fun x => (x.totals, x.clamped)) ≠ (recomputed k kinds o).map fun x => (x.totals, x.clamped)) := by
  cases o with
  | none => simp [recomputed, totalsChanged]
  | some x =>
    rw [recomputed_eq]
    simp only [Option.map_some, totalsChanged, ne_eq, Option.some.injEq, Prod.mk.injEq, not_and_or, Bool.decide_or]

/-- Settles O10: the state, the ranges, the first violation, and the recomputation with its counts. -/
theorem writeFoldKindRecomputesItsPatterns : Obligations.WriteFoldKindRecomputesItsPatterns := by
  intro n m l a s hs
  refine ⟨fun hc hst => exec_eq_refused rfl hs (writeFoldKind_state hc hst),
    fun hline h => exec_eq_refused rfl hs (writeFoldKind_out_of_range hline h), ?_, ?_⟩
  · intro k kinds hline hn hm hl ha hkinds p x hx huses hbefore
    have hserve := writeFoldKind_in_range hline hn hm hl ha hkinds
    have hsorted : (List.finRange 48).Pairwise (· < ·) := List.pairwise_lt_finRange 48
    have hfirst := fun v hv => kindViolation_first (v := v) hsorted (List.mem_finRange p) hx huses hv hbefore
    refine ⟨fun g hg => ?_, fun htakes hlong => ?_⟩
    · rw [hfirst _ (foldViolation_takeUp hg)] at hserve
      exact exec_eq_refused rfl hs hserve
    · rw [hfirst _ (foldViolation_output htakes hlong)] at hserve
      exact exec_eq_refused rfl hs hserve
  · intro k kinds hline hn hm hl ha hkinds hall
    have hserve := writeFoldKind_in_range hline hn hm hl ha hkinds
    rw [kindViolation_all hall] at hserve
    have hplaces : ∀ p : Fin 48, (Vector.ofFn fun p => recomputed k kinds s.store.places[p])[p] =
        recomputed k kinds s.store.places[p] := fun p => by simp
    refine ⟨_, _, _, Vector.ofFn fun p => recomputed k kinds s.store.places[p],
      exec_eq_ok_of rfl hs hserve ?_, fun p => ?_, rfl, rfl, ?_, fun h => ?_⟩
    · simp only [hplaces, leBytes_one_byte, leBytes_two_two, totalsChanged_eq, placeClamped_eq, List.append_assoc,
        List.cons_append, List.nil_append]
    · rw [hplaces, recomputed_eq]
    · rintro ⟨p, hp⟩
      have hnewly : ((List.finRange 48).any fun p => !placeClamped s.store.places[p]
          && placeClamped (Vector.ofFn fun p => recomputed k kinds s.store.places[p])[p]) = true := by
        rw [hplaces] at hp
        refine List.any_eq_true.mpr ⟨p, List.mem_finRange p, ?_⟩
        rw [hplaces]
        exact placeClamped_false.mpr hp
      rw [hnewly]
      rfl
    · have hnewly : ((List.finRange 48).any fun p => !placeClamped s.store.places[p]
          && placeClamped (Vector.ofFn fun p => recomputed k kinds s.store.places[p])[p]) = false := by
        refine List.any_eq_false.mpr fun p _ hp => ?_
        rw [hplaces] at hp
        obtain ⟨hold, hnew⟩ := placeClamped_false.mp hp
        refine h p hold ?_
        rw [hplaces]
        exact hnew
      rw [hnewly]
      rfl

end Sys2Proof.Proofs

/-! The field lines (O30). -/

namespace Sys2Proof.Proofs

open Machine Statements Safety

/-! ### Latching (R31, R32) -/

theorem digitsValue_testBit (l : List Bool) (k : Nat) : (digitsValue l).testBit k = l.getD k false := by
  induction l generalizing k with
  | nil => simp [digitsValue]
  | cons b l ih =>
    cases k with
    | zero => cases b <;> simp [digitsValue, bit, Nat.testBit_zero]
    | succ k =>
      have hbit : bit b < 2 := by cases b <;> decide
      have hhalf : (bit b + 2 * digitsValue l) / 2 = digitsValue l := by omega
      rw [digitsValue, Nat.testBit_succ, hhalf, ih, List.getD_cons_succ]

theorem linesWhere_bit (f : Fin 32 → Bool) (n : Fin 32) : (linesWhere f).getLsbD n.val = f n := by
  rw [linesWhere, BitVec.getLsbD_ofNat, digitsValue_testBit]
  simp

theorem lineLive_eq (s : State) (n : Fin 32) : lineLive s n = liveValue s n := by
  simp only [lineLive, liveValue, lineDriven, Bool.and_eq_true, Bool.not_eq_true']
  cases s.lines.lines[n].inverting <;> simp

theorem latchHeld_eq (s : State) (g : Fin 4) : latchHeld s g = (match s.lines.groups[g].inhibit with
    | some k => liveValue s k
    | none => false) := by
  unfold latchHeld
  split
  · next h => simp only [h, lineLive_eq]
  · next h => simp only [h]

theorem latchLines_group (s : State) (g : Fin 4) :
    (latchLines s).lines.groups[g] = { s.lines.groups[g] with held := latchHeld s g } := by simp [latchLines]

theorem latchLines_latch (s : State) (n : Fin 32) : (latchLines s).lines.latch.getLsbD n.val =
    if latchHeld s (groupOf n) then s.lines.latch.getLsbD n.val else liveValue s n := by
  rw [← lineLive_eq]
  exact linesWhere_bit _ n

/-! ### The door test (R35) -/

/-- The door was not read open on a running line before. -/
def doorNewlyOpen (s : State) : Bool :=
  match s.lines.door with
  | some d => d.closed || !d.running
  | none => true

/-- The state with this arrival's reading of the door. -/
def withReading (s : State) (n : Fin 32) : State :=
  s.withLines { s.lines with door := some { closed := linePresented s n, running := lineRunning s.gov.line } }

theorem doorTest_some {s : State} {n : Fin 32} (h : lineWith s .tunnelDoor = some n) :
    doorTest s = raiseWhen (lineRunning s.gov.line && !linePresented s n && doorNewlyOpen s) .doorOpen (withReading s n) := by
  unfold doorTest
  rw [h]
  rfl

theorem doorNewlyOpen_iff (s : State) :
    doorNewlyOpen s = true ↔ ∀ d, s.lines.door = some d → d.closed = true ∨ d.running = false := by
  unfold doorNewlyOpen
  cases s.lines.door with
  | none => simp
  | some d => simp

theorem lineRunning_eq (l : LineState) : lineRunning l = decide (l = .run ∨ l = .stopping) := by
  simp [lineRunning]

/-- Settles O30: the latch bit by bit, and the three outcomes of the door test. -/
theorem linesLatchAndTheDoorIsTested : Obligations.LinesLatchAndTheDoorIsTested := by
  refine ⟨fun s g n hg held hheld => ?_, fun s n hn closed running hclosed hrunning => ?_⟩
  · subst hg
    obtain rfl : held = latchHeld s (groupOf n) := hheld.trans (latchHeld_eq s (groupOf n)).symm
    exact ⟨latchLines_group s _, latchLines_latch s n, rfl, rfl⟩
  · rw [← lineRunning_eq] at hrunning
    subst hclosed hrunning
    have hdoor := doorTest_some hn
    refine ⟨?_, fun hrun hopen hnew he => ?_, fun h => ?_⟩
    · rw [hdoor]
      simp [withReading]
    · have hraised : (lineRunning s.gov.line && !linePresented s n && doorNewlyOpen s) = true := by
        rw [hrun, hopen, (doorNewlyOpen_iff s).mpr hnew]
        rfl
      rw [hdoor, hraised]
      exact raiseNotice_pending .doorOpen (withReading s n) he
    · have hquiet : (lineRunning s.gov.line && !linePresented s n && doorNewlyOpen s) = false := by
        obtain hrest | hshut | ⟨d, hd, hopen, hran⟩ := h
        · rw [hrest]
          rfl
        · rw [hshut, Bool.not_true, Bool.and_false, Bool.false_and]
        · have hold : doorNewlyOpen s = false := by simp [doorNewlyOpen, hd, hopen, hran]
          rw [hold, Bool.and_false]
      rw [hdoor, hquiet]
      rfl

end Sys2Proof.Proofs

/-! The fold calculator: completion, passing and emission (O28, O32). -/

namespace Sys2Proof.Proofs

open Machine Statements Safety

/-! ### Issue (R64) -/

/-- The state with `k` requests issued behind those in flight, from entry `n` of a panel of pattern `x` on. -/
def withIssued (s : State) (c : PanelContext) (x : Pattern) (n k : Nat) : State :=
  (s.withFolds { s.folds with requests := s.folds.requests ++ issuedFrom s c x n k }).withSeq
    { s.seq with cursor := some (n + k) }

/-- How many requests the conditions of R64 allow. -/
def issuable (s : State) (x : Pattern) (n : Nat) : Nat :=
  min (entryCount x - n) (min (8 - inFlight s.folds) (32 - (inFlight s.folds + s.folds.queue.length)))

theorem issuedFrom_succ (s : State) (c : PanelContext) (x : Pattern) (n k : Nat) :
    issuedFrom s c x n (k + 1) = issuedFrom s c x n k ++
      [{ serial := c.serial, entry := n + k, kind := carriedKind s.store.kinds (entrySpec x (n + k)), abandoned := false }] := by
  have hkind : carriedKind s.store.kinds (entrySpec x (n + k)) = (match entrySpec x (n + k) with
      | some (.fold g _ _) => some (kindAt s.store.kinds g.kind)
      | _ => none) := by
    unfold carriedKind
    split <;> simp_all
  rw [issuedFrom, List.range_succ, List.map_append, List.map_singleton, hkind]
  rfl

theorem issuedFrom_live (s : State) (c : PanelContext) (x : Pattern) (n k : Nat) :
    ((issuedFrom s c x n k).filter fun r => !r.abandoned).length = k := by
  have hall : (issuedFrom s c x n k).filter (fun r => !r.abandoned) = issuedFrom s c x n k := by
    rw [List.filter_eq_self]
    intro r hr
    obtain ⟨j, -, rfl⟩ := List.mem_map.mp hr
    rfl
  rw [hall, issuedFrom, List.length_map, List.length_range]

section

variable {s : State} {c : PanelContext} {x : Pattern} {n : Nat}

theorem inFlight_withIssued (k : Nat) : inFlight (withIssued s c x n k).folds = inFlight s.folds + k := by
  have hfolds : (withIssued s c x n k).folds.requests = s.folds.requests ++ issuedFrom s c x n k := rfl
  rw [inFlight, hfolds, List.filter_append, List.length_append, issuedFrom_live]
  rfl

theorem withIssued_zero (hcursor : s.seq.cursor = some n) : withIssued s c x n 0 = s := by
  have hseq : { s.seq with cursor := some (n + 0) } = s.seq := by rw [Nat.add_zero, ← hcursor]
  rw [withIssued, hseq]
  simp [issuedFrom]
  rfl

/-- One try issues one request when R64 allows one. -/
theorem issueOne_eq (hcontext : s.folds.context = some c) (hplace : s.store.places[c.pattern] = some x)
    (hcursor : s.seq.cursor = some n) : issueOne s =
      if n < entryCount x ∧ inFlight s.folds < 8 ∧ inFlight s.folds + s.folds.queue.length < 32 then withIssued s c x n 1
      else s := by
  unfold issueOne
  split
  · next c' n' hc hn =>
    obtain rfl := Option.some.inj (hcontext.symm.trans hc)
    obtain rfl := Option.some.inj (hcursor.symm.trans hn)
    split
    · next x' hx =>
      obtain rfl := Option.some.inj (hplace.symm.trans hx)
      rw [withIssued, issuedFrom_succ]
      rfl
    · next hx => exact nomatch hplace.symm.trans hx
  · next hnone => exact absurd hcursor (hnone _ _ hcontext)

/-- Issuing one request behind `k` of them issues `k + 1`. -/
theorem withIssued_succ (k : Nat) : withIssued (withIssued s c x n k) c x (n + k) 1 = withIssued s c x n (k + 1) := by
  have hmore : issuedFrom s c x n (k + 1) = issuedFrom s c x n k ++ issuedFrom (withIssued s c x n k) c x (n + k) 1 :=
    issuedFrom_succ s c x n k
  rw [withIssued, withIssued, withIssued, hmore, ← List.append_assoc]
  rfl

/-- One try issues the next request while R64 allows one. -/
theorem issueOne_withIssued (hcontext : s.folds.context = some c) (hplace : s.store.places[c.pattern] = some x) (k : Nat) :
    issueOne (withIssued s c x n k) =
      if k < issuable s x n then withIssued s c x n (k + 1) else withIssued s c x n k := by
  rw [issueOne_eq (s := withIssued s c x n k) (n := n + k) hcontext hplace rfl, inFlight_withIssued, withIssued_succ]
  have hallowed : (n + k < entryCount x ∧ inFlight s.folds + k < 8
      ∧ inFlight s.folds + k + (withIssued s c x n k).folds.queue.length < 32) ↔ k < issuable s x n := by
    have hqueue : (withIssued s c x n k).folds.queue.length = s.folds.queue.length := rfl
    unfold issuable
    omega
  exact if_congr hallowed rfl rfl

theorem issueOne_iterate (hcontext : s.folds.context = some c) (hplace : s.store.places[c.pattern] = some x)
    (hcursor : s.seq.cursor = some n) (k : Nat) : issueOne^[k] s = withIssued s c x n (min k (issuable s x n)) := by
  induction k with
  | zero => rw [Nat.zero_min, withIssued_zero hcursor, Function.iterate_zero, id]
  | succ k ih =>
    rw [Function.iterate_succ_apply', ih, issueOne_withIssued hcontext hplace]
    split
    · next h => rw [Nat.min_eq_left (by omega), Nat.min_eq_left (by omega)]
    · next h => rw [Nat.min_eq_right (by omega), Nat.min_eq_right (by omega)]

/-- Eight tries take every request that R64 allows. -/
theorem issueRequests_eq (hcontext : s.folds.context = some c) (hplace : s.store.places[c.pattern] = some x)
    (hcursor : s.seq.cursor = some n) : issueRequests s = withIssued s c x n (issuable s x n) := by
  have hall : min 8 (issuable s x n) = issuable s x n := Nat.min_eq_right (by unfold issuable; omega)
  have htries := issueOne_iterate hcontext hplace hcursor 8
  rw [hall] at htries
  exact htries

theorem issueRequests_without_cursor (h : s.seq.cursor = none) : issueRequests s = s := by
  have hone : issueOne s = s := by
    rw [issueOne]
    cases hcontext : s.folds.context with
    | none => rfl
    | some c => simp only [h]
  simp only [issueRequests, hone]

theorem issueRequests_without_context (h : s.folds.context = none) : issueRequests s = s := by
  have hone : issueOne s = s := by
    rw [issueOne]
    simp only [h]
  simp only [issueRequests, hone]

end

theorem issueOne_queue (s : State) :
    (issueOne s).folds.queue = s.folds.queue ∧ (issueOne s).folds.ratio = s.folds.ratio := by
  unfold issueOne
  repeat' split
  all_goals exact ⟨rfl, rfl⟩

/-- Issuing leaves the stroke queue and the ratio in force. -/
theorem issueRequests_queue (s : State) :
    (issueRequests s).folds.queue = s.folds.queue ∧ (issueRequests s).folds.ratio = s.folds.ratio := by
  simp only [issueRequests, issueOne_queue, and_self]

/-! ### Completion (R65, R66) -/

theorem completedEntry_eq (c : PanelContext) (kind : FoldKind) (spec : EntrySpec) :
    completedEntry c kind spec = entryOfSpec c kind spec := by
  cases spec <;> rfl

theorem belongsTo_iff (r : FoldRequest) (c : PanelContext) :
    belongsTo r c = true ↔ r.abandoned = false ∧ r.serial = c.serial := by
  simp [belongsTo]

theorem completeRequest_discards {s : State} {r : FoldRequest} {rest : List FoldRequest}
    (hrequests : s.folds.requests = r :: rest) (h : ∀ c, s.folds.context = some c → belongsTo r c = false) :
    completeRequest s = s.withFolds { s.folds with requests := rest } := by
  unfold completeRequest
  rw [hrequests]
  dsimp only [State.withFolds_folds]
  cases hcontext : s.folds.context with
  | none => rfl
  | some c => simp only [h c hcontext, Bool.false_eq_true, if_false]

/-- The state after the oldest request's entry has joined the queue, before requests are issued behind it. -/
def withCompleted (s : State) (rest : List FoldRequest) (c : PanelContext) (e : StrokeEntry) : State :=
  s.withFolds { s.folds with requests := rest, queue := s.folds.queue ++ [e],
                             context := some { c with offset := c.offset + e.length } }

theorem completeRequest_appends {s : State} {r : FoldRequest} {rest : List FoldRequest} {c : PanelContext} {x : Pattern}
    {spec : EntrySpec} (hrequests : s.folds.requests = r :: rest) (hcontext : s.folds.context = some c)
    (hbelongs : belongsTo r c = true) (hplace : s.store.places[c.pattern] = some x) (hspec : entrySpec x r.entry = some spec) :
    completeRequest s = issueRequests (withCompleted s rest c (entryOfSpec c (r.kind.getD FoldKind.spacer) spec)) := by
  have hfound : ∀ f, ((patternAt (s.withFolds f) c.pattern).bind fun p => entrySpec p r.entry) = some spec := fun f => by
    have hpattern : patternAt (s.withFolds f) c.pattern = some x := hplace
    rw [hpattern]
    exact hspec
  unfold completeRequest
  rw [hrequests]
  dsimp only [State.withFolds_folds]
  simp only [hcontext, hbelongs, if_true, hfound, completedEntry_eq]
  rfl

/-- Settles O28: nothing in flight, the discard, and the append with the requests issued behind it. -/
theorem foldCompletionAppendsOrDiscards : Obligations.FoldCompletionAppendsOrDiscards := by
  intro s
  have hexec : exec .foldCompletion s = .next (completeRequest (s.withReply none)) := rfl
  refine ⟨fun h => ?_, fun r rest hrequests hgone => ?_, fun r rest c x spec hrequests hcontext hlive hserial hplace hspec e he => ?_⟩
  · have hnothing : completeRequest (s.withReply none) = s.withReply none := by
      unfold completeRequest
      rw [State.withReply_folds, h]
    rw [hexec, hnothing]
  · rw [hexec]
    refine congrArg Host.Outcome.next (completeRequest_discards hrequests fun c hc => ?_)
    rw [Bool.eq_false_iff, ne_eq, belongsTo_iff]
    rintro ⟨hlive, hserial⟩
    obtain hnone | habandoned | hother := hgone
    · rw [State.withReply_folds, hnone] at hc
      cases hc
    · rw [hlive] at habandoned
      cases habandoned
    · exact hother c hc hserial
  · have happends := completeRequest_appends (s := s.withReply none) hrequests hcontext
      ((belongsTo_iff r c).mpr ⟨hlive, hserial⟩) hplace hspec
    rw [← he] at happends
    rw [hexec, happends]
    cases hcursor : s.seq.cursor with
    | none =>
      rw [issueRequests_without_cursor (s := withCompleted (s.withReply none) rest c e) hcursor]
      refine ⟨_, [], rfl, fun _ => ⟨rfl, hcursor⟩, fun n live k h => (nomatch h), rfl, (List.append_nil rest).symm, rfl, rfl,
        rfl, rfl, rfl⟩
    | some n =>
      rw [issueRequests_eq (s := withCompleted (s.withReply none) rest c e) (c := { c with offset := c.offset + e.length })
        rfl hplace hcursor]
      refine ⟨_, _, rfl, fun h => (nomatch h), fun m live k hm hl hk => ?_, rfl, rfl, rfl, rfl, rfl, rfl, rfl⟩
      obtain rfl := Option.some.inj hm
      have hcount : issuable (withCompleted (s.withReply none) rest c e) x n = k := by
        subst hl hk
        have hqueue : (withCompleted (s.withReply none) rest c e).folds.queue.length = s.folds.queue.length + 1 := by
          simp [withCompleted]
        rw [issuable, hqueue]
        rfl
      rw [hcount]
      exact ⟨rfl, rfl⟩

/-! ### Passing (R70, R67) -/

/-- What a passing may have done: entries gone from the head with the line state standing, or a halt. -/
inductive Passed (s t : State) : Prop
  | gone (l : List StrokeEntry) (hqueue : s.folds.queue = l ++ t.folds.queue) (hline : t.gov.line = s.gov.line)
      (hratio : t.folds.ratio = (l.getLast?.map StrokeEntry.ratio).getD s.folds.ratio)
  | halted (hwas : s.gov.line ≠ .halted) (hline : t.gov.line = .halted) (hqueue : t.folds.queue = [])
      (hratio : t.folds.ratio = 4096)

theorem enterHalted_clears (s : State) : (enterHalted s).gov.line = .halted ∧ (enterHalted s).folds.queue = []
    ∧ (enterHalted s).folds.ratio = 4096 ∧ (enterHalted s).folds.context = none := by
  rw [enterHalted_gov, enterHalted_folds]
  exact ⟨rfl, rfl, rfl, rfl⟩

theorem raiseNotice_passed (n : Notice) (s : State) :
    ((raiseNotice n s).folds = s.folds ∧ (raiseNotice n s).gov.line = s.gov.line)
      ∨ (s.gov.line ≠ .halted ∧ ∃ t, raiseNotice n s = enterHalted t) := by
  obtain h | ⟨t, rfl, h | ⟨hrun, h⟩⟩ := raiseNotice_cases n s
  · rw [h]
    exact .inl ⟨rfl, rfl⟩
  · rw [h]
    exact .inl ⟨rfl, rfl⟩
  · refine .inr ⟨fun hl => ?_, _, h⟩
    rw [hl] at hrun
    cases hrun

theorem passEntry_passed (e : StrokeEntry) (rest : List StrokeEntry) (s : State) :
    ((passEntry e rest s).folds.queue = rest ∧ (passEntry e rest s).folds.ratio = e.ratio
        ∧ (passEntry e rest s).gov.line = s.gov.line)
      ∨ (s.gov.line ≠ .halted ∧ (passEntry e rest s).gov.line = .halted ∧ (passEntry e rest s).folds.queue = []
        ∧ (passEntry e rest s).folds.ratio = 4096) := by
  have hissued : ∀ u : State, u.folds.queue = rest → u.folds.ratio = e.ratio → u.gov.line = s.gov.line →
      (issueRequests u).folds.queue = rest ∧ (issueRequests u).folds.ratio = e.ratio
        ∧ (issueRequests u).gov.line = s.gov.line := fun u hq hr hl => by
    have hgov : (issueRequests u).gov = u.gov := by simp
    rw [(issueRequests_queue u).1, (issueRequests_queue u).2, hgov]
    exact ⟨hq, hr, hl⟩
  unfold passEntry
  dsimp only
  split
  · generalize hu : updateRecord (s.withFolds { s.folds with queue := rest, ratio := e.ratio }) e.record _ = u
    have hfolds : u.folds = { s.folds with queue := rest, ratio := e.ratio } := by rw [← hu]; rfl
    have hgov : u.gov = s.gov := by rw [← hu]; rfl
    obtain ⟨hkept, hline⟩ | ⟨hrun, t, ht⟩ := raiseNotice_passed .foldLate u
    · exact .inl (hissued _ (by rw [hkept, hfolds]) (by rw [hkept, hfolds]) (by rw [hline, hgov]))
    · obtain ⟨hline, hqueue, hratio, hcontext⟩ := enterHalted_clears t
      rw [ht, issueRequests_without_context hcontext]
      exact .inr ⟨hgov ▸ hrun, hline, hqueue, hratio⟩
  · exact .inl (hissued _ rfl rfl rfl)

theorem passEntry_infeed (e : StrokeEntry) (rest : List StrokeEntry) (s : State) :
    infeed (passEntry e rest s) = infeed s := by
  have hconverter : (passEntry e rest s).converter = s.converter := by simp
  simp only [infeed, quantity, hconverter]

theorem passing_of_empty {s : State} (n : Nat) (h : s.folds.queue = []) : passing n s = s := by
  cases n with
  | zero => rfl
  | succ n =>
    rw [passing]
    simp only [h]

theorem passing_of_short {s : State} {e : StrokeEntry} {rest : List StrokeEntry} (n : Nat) (h : s.folds.queue = e :: rest)
    (hshort : reached (infeed s) e.position = false) : passing n s = s := by
  cases n with
  | zero => rfl
  | succ n =>
    rw [passing]
    simp only [h, hshort, Bool.false_eq_true, if_false]

theorem passing_of_reached {s : State} {e : StrokeEntry} {rest : List StrokeEntry} (n : Nat) (h : s.folds.queue = e :: rest)
    (hreached : reached (infeed s) e.position = true) : passing (n + 1) s = passing n (passEntry e rest s) := by
  rw [passing]
  simp only [h, hreached, if_true]

theorem Passed.refl (s : State) : Passed s s :=
  .gone [] rfl rfl rfl

/-- As many tries as the queue has entries leave a head that INFEED_POS has not reached. -/
theorem passing_passed (n : Nat) (s : State) (hn : s.folds.queue.length ≤ n) : Passed s (passing n s)
    ∧ ∀ e rest, (passing n s).folds.queue = e :: rest → reached (infeed s) e.position = false := by
  induction n generalizing s with
  | zero =>
    have hempty : s.folds.queue = [] := List.length_eq_zero_iff.mp (Nat.le_zero.mp hn)
    rw [passing_of_empty 0 hempty]
    exact ⟨.refl s, fun e rest h => by rw [hempty] at h; cases h⟩
  | succ n ih =>
    cases hqueue : s.folds.queue with
    | nil =>
      rw [passing_of_empty _ hqueue]
      exact ⟨.refl s, fun e rest h => by rw [hqueue] at h; cases h⟩
    | cons e rest =>
      cases hreached : reached (infeed s) e.position with
      | false =>
        rw [passing_of_short _ hqueue hreached]
        refine ⟨.refl s, fun f l h => ?_⟩
        obtain ⟨rfl, -⟩ := List.cons.inj (hqueue.symm.trans h)
        exact hreached
      | true =>
        rw [passing_of_reached n hqueue hreached]
        obtain ⟨hrest, hratio, hline⟩ | ⟨hwas, hline, hempty, hratio⟩ := passEntry_passed e rest s
        · have hlength : (passEntry e rest s).folds.queue.length ≤ n := by
            rw [hrest]
            rw [hqueue, List.length_cons] at hn
            omega
          obtain ⟨hpassed, hhead⟩ := ih _ hlength
          rw [passEntry_infeed] at hhead
          refine ⟨?_, hhead⟩
          obtain ⟨l, hl, hkept, hlast⟩ | ⟨hwas, hhalted, hempty, hone⟩ := hpassed
          · refine .gone (e :: l) (by rw [hqueue, List.cons_append, ← hl, hrest]) (hkept.trans hline) ?_
            rw [hlast, hratio, List.getLast?_cons]
            cases l.getLast? <;> rfl
          · exact .halted (hline ▸ hwas) hhalted hempty hone
        · rw [passing_of_empty n hempty]
          exact ⟨.halted hwas hline hempty hratio, fun f l h => by rw [hempty] at h; cases h⟩

/-! ### Emission (R72 to R74) -/

theorem qualifies_eq (s : State) : qualifies (infeed s) (geometryOf s).window = dueStroke s := rfl

theorem strokeOf_eq {e : StrokeEntry} (h : isActing e = true) : strokeOf e = [strokeFor e] := by
  unfold strokeOf strokeFor strokeDepth
  cases hfold : e.fold with
  | none => rw [isActing, hfold] at h; cases h
  | some f => rfl

section

variable (p : Position) (w : Nat)

/-- The strokes of the first `n` entries that qualify. -/
theorem selectStrokes_strokes (n : Nat) (q : List StrokeEntry) :
    (selectStrokes p w n q).1 = ((q.filter (qualifies p w)).take n).map strokeFor := by
  induction q generalizing n with
  | nil => simp [selectStrokes]
  | cons e rest ih =>
    cases n with
    | zero => simp [selectStrokes]
    | succ n =>
      rw [selectStrokes]
      cases hq : qualifies p w e with
      | false =>
        rw [List.filter_cons_of_neg (by simp [hq])]
        exact ih (n + 1)
      | true =>
        have hacting : isActing e = true := by
          simp only [qualifies, Bool.and_eq_true] at hq
          exact hq.1.1
        rw [List.filter_cons_of_pos hq, List.take_succ_cons, List.map_cons, ← ih n, if_pos rfl, strokeOf_eq hacting]
        rfl

/-- Entry `k` is marked emitted when it qualifies and fewer than `n` before it do. -/
theorem selectStrokes_queue (n : Nat) (q : List StrokeEntry) (k : Nat) : (selectStrokes p w n q).2[k]? =
    q[k]?.map fun e => if qualifies p w e = true ∧ ((q.take k).filter (qualifies p w)).length < n then
      { e with emitted := true } else e := by
  induction q generalizing n k with
  | nil => simp [selectStrokes]
  | cons e rest ih =>
    cases n with
    | zero => simp [selectStrokes]
    | succ n =>
      rw [selectStrokes]
      cases hq : qualifies p w e with
      | false =>
        rw [if_neg (by simp)]
        cases k with
        | zero => simp [hq]
        | succ k => simp [ih, hq]
      | true =>
        rw [if_pos rfl]
        cases k with
        | zero => simp [hq]
        | succ k => simp [ih, hq]

end

theorem emission_folds (s : State) : (emission s).folds = { s.folds with
    queue := (selectStrokes (infeed s) (geometryOf s).window 4 s.folds.queue).2,
    strokes := (selectStrokes (infeed s) (geometryOf s).window 4 s.folds.queue).1 } := rfl

theorem passing_outcome (s : State) : Passed s (passing s.folds.queue.length s) := (passing_passed _ s le_rfl).1

/-- Settles O32: what a passing takes and leaves, and the entries that an emission selects. -/
theorem entriesPassAndAreEmitted : Obligations.EntriesPassAndAreEmitted := by
  refine ⟨fun s t ht => ?_, fun s due hdue => ?_⟩
  · subst ht
    have hpassed := passing_outcome s
    refine ⟨(passing_passed _ s le_rfl).2, ?_, fun gone e hqueue hline => ?_, fun hline => ?_,
      fun e rest hqueue hshort => passing_of_short _ hqueue hshort⟩
    · obtain ⟨l, hl, -, -⟩ | ⟨-, -, hempty, -⟩ := hpassed
      · exact ⟨l, hl.symm⟩
      · rw [hempty]
        exact List.nil_suffix
    · obtain ⟨l, hl, -, hratio⟩ | ⟨hwas, hhalted, -, -⟩ := hpassed
      · obtain rfl : l = gone ++ [e] := List.append_cancel_right (hl.symm.trans hqueue)
        rw [hratio, List.getLast?_concat]
        rfl
      · exact absurd (hline.symm.trans hhalted) hwas
    · obtain ⟨l, -, hkept, -⟩ | ⟨-, hhalted, hempty, hone⟩ := hpassed
      · exact absurd hkept hline
      · exact ⟨hhalted, hempty, hone⟩
  · subst hdue
    have hqueue := selectStrokes_queue (infeed s) (geometryOf s).window 4 s.folds.queue
    rw [qualifies_eq] at hqueue
    refine ⟨?_, ?_, fun k e hk => ?_, rfl⟩
    · rw [emission_folds, ← qualifies_eq]
      exact selectStrokes_strokes _ _ 4 _
    · rw [emission_folds]
      exact selectStrokes_length _ _ 4 _
    · rw [emission_folds]
      exact (hqueue k).trans (by rw [hk]; rfl)

end Sys2Proof.Proofs

/-! The panel decision and the opening of a PANEL (O33). -/

namespace Sys2Proof.Proofs

open Machine Statements Safety

/-! ### The take of condition 2 (R81) -/

/-- A run has panels remaining: the current one, or else the one at the head of the queue (R87 condition 2). -/
def RunReady (q : Sequencer) (r : Run) : Prop :=
  (∃ c, q.current = some c ∧ 0 < c.remaining ∧ c.run = r)
    ∨ ((∀ c, q.current = some c → c.remaining = 0) ∧ q.queue.head? = some r ∧ 0 < r.count)

theorem liveRun_eq_some {q : Sequencer} {r : Run} :
    liveRun q = some r ↔ ∃ c, q.current = some c ∧ 0 < c.remaining ∧ c.run = r := by
  unfold liveRun
  cases q.current with
  | none => simp
  | some c => simp

theorem liveRun_eq_none {q : Sequencer} : liveRun q = none ↔ ∀ c, q.current = some c → c.remaining = 0 := by
  unfold liveRun
  cases q.current with
  | none => simp
  | some c => simp

/-- The live run after the take. -/
theorem takeRun_liveRun (s : State) (r : Run) : liveRun (takeRun s).1.seq = some r ↔ RunReady s.seq r := by
  unfold takeRun
  split
  · next head rest hnone hqueue =>
    have hready : RunReady s.seq r ↔ head = r ∧ 0 < head.count := by
      rw [RunReady, ← liveRun_eq_some, ← liveRun_eq_none, hnone, hqueue, List.head?_cons]
      constructor
      · rintro (h | ⟨-, h, hcount⟩)
        · cases h
        · obtain rfl := Option.some.inj h
          exact ⟨rfl, hcount⟩
      · rintro ⟨rfl, hcount⟩
        exact .inr ⟨rfl, rfl, hcount⟩
    rw [hready, liveRun_eq_some]
    simp [and_comm]
  · next hother =>
    rw [RunReady, ← liveRun_eq_some, ← liveRun_eq_none]
    refine ⟨.inl, fun h => ?_⟩
    obtain hlive | ⟨hnone, hhead, -⟩ := h
    · exact hlive
    · cases hqueue : s.seq.queue with
      | nil => rw [hqueue] at hhead; cases hhead
      | cons head rest => exact absurd hqueue (hother head rest hnone)

/-- A take moves the queue and the current run alone. -/
theorem takeRun_takes (s : State) : ∃ q, (takeRun s).1 = s.withSeq q ∧ q.hold = s.seq.hold := by
  unfold takeRun
  split
  · exact ⟨_, rfl, rfl⟩
  · exact ⟨s.seq, rfl, rfl⟩

theorem candidate_eq_some {s : State} {p : Pattern} :
    candidate s = some p ↔ ∃ r, liveRun s.seq = some r ∧ s.store.places[r.pattern] = some p := Option.bind_eq_some_iff

/-! ### The conditions of a PANEL (R87) -/

theorem setZonesInBand_iff (t : Tunnel) : setZonesInBand t = true ↔
    ∀ (z : Fin 6) (f : ZoneFit), t.zones[z].fit = some f → f.role = .set → t.zones[z].state = .inBand := by
  have hzone : ∀ x : Zone, (match x.fit with
      | some f => decide (f.role ≠ .set) || decide (x.state = .inBand)
      | none => true) = true ↔ ∀ f, x.fit = some f → f.role = .set → x.state = .inBand := fun x => by
    cases x.fit with
    | none => simp
    | some f => simp [← imp_iff_not_or]
  rw [setZonesInBand, List.all_eq_true]
  constructor
  · intro h z
    exact (hzone _).mp (h t.zones[z] (by simp))
  · intro h x hx
    obtain ⟨k, hk, rfl⟩ := List.getElem_of_mem hx
    exact (hzone _).mpr (h ⟨k, by simpa using hk⟩)

theorem budgetSuffices_iff (s : State) (p : Pattern) : budgetSuffices s p = true ↔
    s.roll.splice ≠ .armed ∧ s.roll.splice ≠ .matching ∧ s.roll.splice ≠ .paste ∧ s.roll.splice ≠ .clear
      ∧ p.totals.input + (geometryOf s).spliceMargin ≤ s.roll.budget := by
  simp [budgetSuffices, spliceUnderWay, and_assoc]

theorem speedAllows_iff (s : State) (p : Pattern) : speedAllows s p = true ↔
    ∀ a b, setSection s.tunnel = some (a, b) → s.gov.command ≤ (b - a) * 10 / p.minDwell := by
  unfold speedAllows dwellLimit
  cases setSection s.tunnel with
  | none => simp
  | some x =>
    simp only [decide_eq_true_eq, Option.some.injEq]
    exact ⟨fun h a b hab => by rw [hab] at h; exact h, fun h => h x.1 x.2 rfl⟩

theorem decideFor_panel (s : State) (p : Pattern) : (decideFor s p).1 = .panel ↔
    setZonesInBand s.tunnel = true ∧ 2 ≤ s.track.free.length ∧ budgetSuffices s p = true ∧ speedAllows s p = true
      ∧ s.seq.hold = false := by
  have hsplice : (spliceOutcome s.roll.splice).1 ≠ .panel := by cases s.roll.splice <;> simp [spliceOutcome]
  unfold decideFor
  split
  · next h => simp_all
  · split
    · next h =>
      simp only [reduceCtorEq, false_iff]
      omega
    · split
      · next h => simp_all
      · split
        · next h => simp_all
        · split
          · next h => simp_all
          · next h =>
            simp_all
            omega

theorem panelDecision_panel (s : State) : (panelDecision s).2.1 = .panel ↔ s.gov.line = .run
    ∧ ∃ r p, RunReady s.seq r ∧ s.store.places[r.pattern] = some p ∧ (decideFor s p).1 = .panel := by
  obtain ⟨q, htake, hhold⟩ := takeRun_takes s
  have hstore : (takeRun s).1.store = s.store := by rw [htake]; rfl
  have hdecide : ∀ p, (decideFor (takeRun s).1 p).1 = .panel ↔ (decideFor s p).1 = .panel := fun p => by
    rw [decideFor_panel, decideFor_panel, htake]
    simp only [State.withSeq_tunnel, State.withSeq_track, State.withSeq_seq, hhold]
    rfl
  have hcandidate : ∀ p, candidate (takeRun s).1 = some p ↔ ∃ r, RunReady s.seq r ∧ s.store.places[r.pattern] = some p :=
    fun p => by simp only [candidate_eq_some, takeRun_liveRun, hstore]
  unfold panelDecision
  split
  · next hline => simp [hline]
  · next hline =>
    dsimp only
    split
    · next hnone =>
      simp only [reduceCtorEq, false_iff, not_and, not_exists]
      intro _ r p hr hp
      rw [(hcandidate p).mpr ⟨r, hr, hp⟩] at hnone
      cases hnone
    · next p hp =>
      rw [hdecide]
      refine ⟨fun h => ?_, fun ⟨_, r, p', hr, hp', h⟩ => ?_⟩
      · obtain ⟨r, hr, hplace⟩ := (hcandidate p).mp hp
        exact ⟨not_not.mp hline, r, p, hr, hplace, h⟩
      · have hsame := (hcandidate p').mpr ⟨r, hr, hp'⟩
        rw [hp] at hsame
        rwa [Option.some.inj hsame]

/-! ### The opening of a PANEL (R90) -/

theorem issueOne_seq (s : State) : (issueOne s).seq = { s.seq with cursor := (issueOne s).seq.cursor }
    ∧ (issueOne s).folds.context = s.folds.context := by
  unfold issueOne
  repeat' split
  all_goals exact ⟨rfl, rfl⟩

/-- Issuing moves the cursor alone in the sequencer, and leaves the panel context. -/
theorem issueRequests_seq (s : State) : (∃ n, (issueRequests s).seq = { s.seq with cursor := n })
    ∧ (issueRequests s).folds.context = s.folds.context := by
  have hcompose : ∀ t : State, ((∃ n, t.seq = { s.seq with cursor := n }) ∧ t.folds.context = s.folds.context) →
      (∃ n, (issueOne t).seq = { s.seq with cursor := n }) ∧ (issueOne t).folds.context = s.folds.context := by
    rintro t ⟨⟨n, hn⟩, hcontext⟩
    obtain ⟨hseq, hkept⟩ := issueOne_seq t
    rw [hn] at hseq
    exact ⟨⟨_, hseq⟩, hkept.trans hcontext⟩
  unfold issueRequests
  iterate 8 apply hcompose
  exact ⟨⟨s.seq.cursor, rfl⟩, rfl⟩

/-- The record that the opening of a panel of the current run writes. -/
def panelRecord (s : State) (c : CurrentRun) (p : Pattern) : TrackRecord :=
  { openedRecord s .panel with
    inLen := some p.totals.input, outLen := some p.totals.output, pattern := some c.run.pattern,
    lotTag := some c.run.lotTag, lotClass := some p.lotClass, serial := some s.seq.serial }

/-- The opened panel's state before its first requests are issued. -/
def panelOpened (s : State) (i : Fin 64) (rest : List (Fin 64)) (c : CurrentRun) (p : Pattern) : State :=
  ((s.withTrack { s.track with free := rest, runout := s.track.runout ++ [i],
                               records := s.track.records.set i (panelRecord s c p) }).withSeq
    { s.seq with openRecord := some i, current := some (lessOne c), serial := saturate counterMax s.seq.serial 1,
                 cursor := some 0, lastPanel := some (c.run.lotTag, s.seq.serial) }).withFolds
    { s.folds with
      context := some { serial := s.seq.serial, record := i, pattern := c.run.pattern, start := infeed s, offset := 0 } }

theorem openPanel_eq {s : State} {i : Fin 64} {rest : List (Fin 64)} {c : CurrentRun} {p : Pattern}
    (hfree : s.track.free = i :: rest) (hcurrent : s.seq.current = some c) (hcandidate : candidate s = some p) :
    openPanel s = (issueRequests (panelOpened s i rest c p),
      if c.remaining = 1 ∧ s.seq.queue = [] then [.orderEmpty] else []) := by
  have hallocate : ∀ r, allocate s r = (s.withTrack { s.track with
      free := rest, runout := s.track.runout ++ [i], records := s.track.records.set i r }).withSeq
      { s.seq with openRecord := some i } := fun r => by
    simp only [allocate, hfree, State.withTrack_seq]
  unfold openPanel
  rw [hcurrent, hcandidate]
  dsimp only
  rw [hallocate]
  rfl

/-- Settles O33: the decision condition by condition, and the opening item by item. -/
theorem panelOpensWhenAllConditionsHold : Obligations.PanelOpensWhenAllConditionsHold := by
  refine ⟨fun s => ?_, fun s i rest c p hfree hcurrent hremaining hplace t ht => ?_⟩
  · rw [panelDecision_panel]
    simp only [decideFor_panel, setZonesInBand_iff, budgetSuffices_iff, speedAllows_iff, and_assoc]
    rfl
  · have hcandidate : candidate s = some p :=
      candidate_eq_some.mpr ⟨c.run, liveRun_eq_some.mpr ⟨c, hcurrent, hremaining, rfl⟩, hplace⟩
    have hopen := openPanel_eq hfree hcurrent hcandidate
    rw [hopen] at ht ⊢
    dsimp only at ht ⊢
    subst ht
    obtain ⟨⟨n, hseq⟩, hcontext⟩ := issueRequests_seq (panelOpened s i rest c p)
    have htrack : (issueRequests (panelOpened s i rest c p)).track = (panelOpened s i rest c p).track := by simp
    obtain ⟨hqueue, hratio⟩ := issueRequests_queue (panelOpened s i rest c p)
    rw [htrack, hseq, hcontext, hqueue, hratio]
    refine ⟨panelRecord s c p, rfl, rfl, rfl, rfl, rfl, rfl, rfl, rfl, rfl, rfl, rfl, rfl,
      ⟨_, rfl, openingOutStart_is s⟩, rfl, rfl, rfl, rfl, rfl, rfl, rfl, rfl, rfl, rfl, rfl, rfl, ?_⟩
    by_cases h : c.remaining = 1 ∧ s.seq.queue = []
    · simp [h]
    · rw [if_neg h]
      simp [h]

end Sys2Proof.Proofs

/-! The track block and the take-off: entry and exit moves, cuts and the cut entry (O34). -/

namespace Sys2Proof.Proofs

open Machine Statements Safety

/-! ### Edges -/

theorem edgeReached_iff (e : Position) (d : Nat) : edgeReached e d = true ↔ EdgeAt e d := by
  simp [edgeReached, reached, EdgeAt, Statements.Reaches]

theorem behindKnife_iff (s : State) (i : Fin 64) :
    behindKnife s i = true ↔ 2 ^ 31 ≤ (leadAt s s.track.records[i]).toNat := by
  have hzero : EdgeAt (leadAt s s.track.records[i]) 0 ↔ (leadAt s s.track.records[i]).toNat < 2147483648 := by
    simp [EdgeAt, Statements.Reaches]
  rw [behindKnife, Bool.not_eq_true', ← Bool.not_eq_true, edgeReached_iff]
  exact (not_congr hzero).trans Nat.not_lt

theorem moves_iff (s : State) (i : Fin 64) (e : Position) (d : Nat) :
    moves s i e d = true ↔ i ∉ s.track.behind ∧ EdgeAt e d := by
  rw [moves, Bool.and_eq_true, decide_eq_true_eq, edgeReached_iff]

/-! ### Records behind the knife (R111) -/

theorem recordsBehindTheKnife : RecordsBehindTheKnife := by
  intro wasLost s t ht
  refine ⟨fun hlost => ?_, fun hfound => ?_⟩
  · rw [ht, noteBehind, if_pos hlost]
  · have hnoted : noteBehind wasLost s = s.withTrack { s.track with
        behind := (if wasLost then s.track.runout ++ s.track.tunnel else s.track.behind).filter (behindKnife s) } := by
      rw [noteBehind, hfound]
      rfl
    rw [hnoted] at ht
    subst ht
    refine ⟨rfl, fun i => ?_⟩
    rw [State.withTrack_track, List.mem_filter, behindKnife_iff, and_comm]
    cases wasLost <;> simp

/-! ### The entry moves (R111, R112) -/

/-- What a run of entry moves does: the records `moved` go from the head of RUNOUT to the tail of TUNNEL. -/
structure Entered (moved : List (Fin 64)) (s t : State) : Prop where
  runout : s.track.runout = moved ++ t.track.runout
  track : t.track = { s.track with runout := t.track.runout, tunnel := s.track.tunnel ++ moved }
  due : ∀ i ∈ moved, i ∉ s.track.behind ∧ EdgeAt (leadAt s s.track.records[i]) (geometryOf s).entry
  state : t = (s.withTrack t.track).withTunnel { s.tunnel with residues := t.tunnel.residues }
  residues : ∀ i : Fin 64, t.tunnel.residues[i] = if i ∈ moved then 0 else s.tunnel.residues[i]

theorem Entered.none (s : State) : Entered [] s s where
  runout := rfl
  track := by rw [List.append_nil]
  due := fun i h => nomatch h
  state := rfl
  residues := fun i => (if_neg (by simp)).symm

theorem Entered.cons {i : Fin 64} {rest moved : List (Fin 64)} {s t : State} (hrunout : s.track.runout = i :: rest)
    (hdue : i ∉ s.track.behind ∧ EdgeAt (leadAt s s.track.records[i]) (geometryOf s).entry)
    (h : Entered moved (enterTunnel i rest s) t) : Entered (i :: moved) s t := by
  obtain ⟨hrest, htrack, hmoved, hstate, hresidues⟩ := h
  have hrest' : rest = moved ++ t.track.runout := hrest
  refine ⟨by rw [hrunout, hrest', List.cons_append], ?_, fun j hj => ?_, hstate, fun j => ?_⟩
  · rw [htrack]
    simp [enterTunnel]
  · obtain rfl | hj := List.mem_cons.mp hj
    · exact hdue
    · exact hmoved j hj
  · have hset : (enterTunnel i rest s).tunnel.residues[j] = if j = i then 0 else s.tunnel.residues[j] := by
      by_cases hji : j = i
      · subst hji
        simp [enterTunnel]
      · rw [if_neg hji]
        exact Vector.getElem_set_ne i.isLt j.isLt fun e => hji (Fin.ext e.symm)
    rw [hresidues, hset]
    by_cases hji : j = i <;> simp [hji]

theorem entryMoves_entered (n : Nat) (s : State) (hn : s.track.runout.length ≤ n) :
    ∃ moved, Entered moved s (entryMoves n s)
      ∧ ∀ i rest, (entryMoves n s).track.runout = i :: rest →
          i ∈ s.track.behind ∨ ¬EdgeAt (leadAt s s.track.records[i]) (geometryOf s).entry := by
  induction n generalizing s with
  | zero =>
    have hempty : s.track.runout = [] := List.length_eq_zero_iff.mp (Nat.le_zero.mp hn)
    exact ⟨[], .none s, fun i rest h => nomatch hempty.symm.trans h⟩
  | succ n ih =>
    rw [entryMoves]
    split
    · next hempty => exact ⟨[], .none s, fun i rest h => nomatch hempty.symm.trans h⟩
    · next i rest hrunout =>
      split
      · next hmoves =>
        have hlength : (enterTunnel i rest s).track.runout.length ≤ n := by
          rw [hrunout, List.length_cons] at hn
          exact Nat.le_of_succ_le_succ hn
        obtain ⟨moved, hentered, hhead⟩ := ih _ hlength
        exact ⟨i :: moved, .cons hrunout ((moves_iff s i _ _).mp hmoves) hentered, hhead⟩
      · next hstays =>
        refine ⟨[], .none s, fun j l h => ?_⟩
        obtain ⟨rfl, -⟩ := List.cons.inj (hrunout.symm.trans h)
        rw [moves_iff] at hstays
        tauto

theorem entryWork_moves : EntryMoves := by
  intro s t ht
  refine ⟨fun hlost => ?_, fun hfound => ?_⟩
  · rw [ht, entryWork, if_pos hlost]
  · rw [entryWork, hfound, if_neg (by simp)] at ht
    subst ht
    obtain ⟨moved, ⟨hrunout, htrack, hdue, hstate, hresidues⟩, hhead⟩ := entryMoves_entered _ s le_rfl
    exact ⟨moved, hrunout, htrack, hdue, hhead, hstate, hresidues⟩

/-! ### What a raised notice does to the track -/

/-- The open record is marked open. -/
def OpenIsOpen (s : State) : Prop := ∀ i, s.seq.openRecord = some i → s.track.records[i].isOpen = true

/-- What a closed record keeps: its place on the belt, the stamps it has, and its disposition. -/
structure RecordKept (r r' : TrackRecord) : Prop where
  closed : r'.isOpen = false
  outStart : r'.outStart = r.outStart
  outLen : r'.outLen = r.outLen
  leadEntry : r.transits.leadEntry ≠ none → r'.transits.leadEntry ≠ none
  leadExit : r.transits.leadExit ≠ none → r'.transits.leadExit ≠ none
  trailEntry : r.transits.trailEntry ≠ none → r'.transits.trailEntry ≠ none
  trailExit : r.transits.trailExit ≠ none → r'.transits.trailExit ≠ none
  disposition : r.disposition ≠ none → r'.disposition ≠ none

/-- Work of an exit move on the records: quantities, settings and lists stand, the open record stays open, and closed
records keep what they have. -/
structure RecordsWorked (s t : State) : Prop where
  converter : t.converter = s.converter
  tunnel : t.tunnel = s.tunnel
  freeIndex : t.freeIndex = s.freeIndex
  track : ∃ v, t.track = { s.track with records := v }
  opened : OpenIsOpen s → OpenIsOpen t
  records : OpenIsOpen s → ∀ i : Fin 64, s.track.records[i].isOpen = false → RecordKept s.track.records[i] t.track.records[i]

theorem RecordKept.refl {r : TrackRecord} (h : r.isOpen = false) : RecordKept r r := ⟨h, rfl, rfl, id, id, id, id, id⟩

theorem RecordKept.trans {r r' r'' : TrackRecord} (h : RecordKept r r') (h' : RecordKept r' r'') : RecordKept r r'' where
  closed := h'.closed
  outStart := h'.outStart.trans h.outStart
  outLen := h'.outLen.trans h.outLen
  leadEntry := h'.leadEntry ∘ h.leadEntry
  leadExit := h'.leadExit ∘ h.leadExit
  trailEntry := h'.trailEntry ∘ h.trailEntry
  trailExit := h'.trailExit ∘ h.trailExit
  disposition := h'.disposition ∘ h.disposition

theorem RecordsWorked.refl (s : State) : RecordsWorked s s :=
  ⟨rfl, rfl, rfl, ⟨_, rfl⟩, id, fun _ _ h => .refl h⟩

theorem RecordsWorked.trans {s t u : State} (h : RecordsWorked s t) (h' : RecordsWorked t u) : RecordsWorked s u where
  converter := h'.converter.trans h.converter
  tunnel := h'.tunnel.trans h.tunnel
  freeIndex := h'.freeIndex.trans h.freeIndex
  track := by
    obtain ⟨v, hv⟩ := h.track
    obtain ⟨w, hw⟩ := h'.track
    exact ⟨w, by rw [hw, hv]⟩
  opened := h'.opened ∘ h.opened
  records := fun hopen i hi =>
    have hkept := h.records hopen i hi
    hkept.trans (h'.records (h.opened hopen) i hkept.closed)

/-- Writing one record: it stays open or closed as it was, and keeps what a closed record keeps. -/
theorem setRecord_worked {s : State} {i : Fin 64} {r : TrackRecord} (hopen : r.isOpen = (recordAt s i).isOpen)
    (hkept : r.isOpen = false → RecordKept (recordAt s i) r) : RecordsWorked s (setRecord s i r) := by
  have hsame : (setRecord s i r).track.records[i] = r := recordAt_setRecord_same s i r
  have hother : ∀ j, i ≠ j → (setRecord s i r).track.records[j] = s.track.records[j] :=
    fun j h => recordAt_setRecord_other s i j r h
  refine ⟨rfl, rfl, rfl, ⟨_, rfl⟩, fun h j hj => ?_, fun h j hj => ?_⟩
  · by_cases hij : i = j
    · subst hij
      rw [hsame, hopen]
      exact h i hj
    · rw [hother j hij]
      exact h j hj
  · by_cases hij : i = j
    · subst hij
      rw [hsame]
      exact hkept (hopen.trans hj)
    · rw [hother j hij]
      exact .refl hj

theorem closeHalted_worked (s : State) : RecordsWorked s (closeHalted s) := by
  cases hopen : s.seq.openRecord with
  | none =>
    have hnothing : closeHalted s = s := by rw [closeHalted, hopen]
    rw [hnothing]
    exact .refl s
  | some i =>
    obtain ⟨r, hseq, htrack, -⟩ := haltClosesTheOpenRecord s i hopen
    refine ⟨by simp, by simp, by simp, ⟨_, htrack⟩, fun _ j hj => ?_, fun h j hj => ?_⟩
    · rw [hseq] at hj
      cases hj
    · have hij : i ≠ j := by
        rintro rfl
        rw [h i hopen] at hj
        cases hj
      have hkept : (closeHalted s).track.records[j] = s.track.records[j] := by
        rw [htrack]
        exact Vector.getElem_set_ne i.isLt j.isLt fun e => hij (Fin.ext e)
      rw [hkept]
      exact .refl hj

/-- Work that leaves the track, the open record and what the edges are measured by. -/
theorem RecordsWorked.of_eq {s t : State} (hconverter : t.converter = s.converter) (htunnel : t.tunnel = s.tunnel)
    (hindex : t.freeIndex = s.freeIndex) (htrack : t.track = s.track) (hopen : t.seq.openRecord = s.seq.openRecord) :
    RecordsWorked s t := by
  refine ⟨hconverter, htunnel, hindex, ⟨s.track.records, htrack⟩, fun h i hi => ?_, fun _ i hi => ?_⟩
  · rw [htrack]
    exact h i (hopen ▸ hi)
  · rw [htrack]
    exact .refl hi

theorem settleHalted_worked (s : State) : RecordsWorked s (settleHalted s) := by
  unfold settleHalted
  split
  · exact closeHalted_worked s
  · exact .refl s

theorem enterHalted_worked (s : State) : RecordsWorked s (enterHalted s) := by
  rw [enterHalted_eq]
  refine RecordsWorked.trans ?_ (settleHalted_worked _)
  exact .of_eq (by simp) (by simp) (by simp) (by simp) rfl

theorem raiseNotice_worked (n : Notice) (s : State) : RecordsWorked s (raiseNotice n s) := by
  obtain h | ⟨t, rfl, h | ⟨-, h⟩⟩ := raiseNotice_cases n s
  · rw [h]
    exact .refl s
  · rw [h]
    exact .of_eq rfl rfl rfl rfl rfl
  · rw [h]
    exact RecordsWorked.trans (s := s) (t := withPendingNotice n s) (.of_eq rfl rfl rfl rfl rfl) (enterHalted_worked (withPendingNotice n s))

theorem raiseAll_worked (ns : List Notice) (s : State) : RecordsWorked s (raiseAll ns s) := by
  induction ns generalizing s with
  | nil => exact .refl s
  | cons n ns ih => exact (raiseNotice_worked n s).trans (ih _)

theorem raiseWhen_worked (c : Bool) (n : Notice) (s : State) : RecordsWorked s (raiseWhen c n s) := by
  unfold raiseWhen
  split
  · exact raiseNotice_worked n s
  · exact .refl s

/-! ### Stamps and dwell checks (R155, R156) -/

theorem stamp_kept (holds : Bool) (ts : Timestamp) {old : Option Timestamp} (h : old ≠ none) : stamp holds ts old = old := by
  cases old with
  | none => exact absurd rfl h
  | some x => rfl

theorem stamp_taken {holds : Bool} (ts : Timestamp) (old : Option Timestamp) (h : holds = true) :
    stamp holds ts old ≠ none := by
  cases old with
  | none => simp [stamp, h]
  | some x => simp [stamp]

/-- A record with the stamps of an arrival. -/
def stamped (sect : Nat × Nat) (ts : Timestamp) (p : Position) (r : TrackRecord) : TrackRecord :=
  { r with transits := stampTransits sect ts (leadEdge p r) (trailEdge p r) r.transits }

theorem stampRecord_some {s : State} {sect : Nat × Nat} (ts : Timestamp) (i : Fin 64) (h : setSection s.tunnel = some sect) :
    stampRecord ts i s = setRecord s i (stamped sect ts (belt s) (recordAt s i)) := by
  unfold stampRecord
  rw [h]
  rfl

theorem stampRecord_none {s : State} (ts : Timestamp) (i : Fin 64) (h : setSection s.tunnel = none) :
    stampRecord ts i s = s := by
  unfold stampRecord
  rw [h]

theorem stampRecord_worked (ts : Timestamp) (i : Fin 64) (s : State) : RecordsWorked s (stampRecord ts i s) := by
  cases h : setSection s.tunnel with
  | none =>
    rw [stampRecord_none ts i h]
    exact .refl s
  | some sect =>
    rw [stampRecord_some ts i h]
    have hkept : ∀ (holds : Bool) (old : Option Timestamp), old ≠ none → stamp holds ts old ≠ none := fun holds old hold => by
      rwa [stamp_kept holds ts hold]
    exact setRecord_worked rfl fun hclosed =>
      ⟨hclosed, rfl, rfl, hkept _ _, hkept _ _, hkept _ _, hkept _ _, id⟩

theorem dwellChecks_worked (i : Fin 64) (s : State) : RecordsWorked s (dwellChecks i s) := by
  unfold dwellChecks
  dsimp only
  split
  · split
    · refine RecordsWorked.trans ?_ ((raiseWhen_worked _ _ _).trans (raiseWhen_worked _ _ _))
      exact setRecord_worked rfl fun hclosed => ⟨hclosed, rfl, rfl, id, id, id, id, id⟩
    · exact .refl s
  · exact .refl s

/-! ### The exit moves (R111, R113) -/

/-- The stamps that a record's edges call for are taken (R155). -/
def StampsTaken (s : State) (r : TrackRecord) : Prop :=
  ∀ a b, setSection s.tunnel = some (a, b) →
    (EdgeAt (leadAt s r) a → r.transits.leadEntry ≠ none) ∧ (EdgeAt (leadAt s r) b → r.transits.leadExit ≠ none)
      ∧ (EdgeAt (trailAt s r) a → r.transits.trailEntry ≠ none)
      ∧ (EdgeAt (trailAt s r) b → r.transits.trailExit ≠ none)

/-- A record as an exit move leaves it. -/
def Exited (s : State) (r : TrackRecord) : Prop :=
  r.isOpen = false ∧ EdgeAt (trailAt s r) (geometryOf s).exit ∧ r.disposition ≠ none ∧ StampsTaken s r

theorem RecordKept.edges {s : State} {r r' : TrackRecord} (h : RecordKept r r') (hclosed : r.isOpen = false) :
    leadAt s r' = leadAt s r ∧ trailAt s r' = trailAt s r := by
  simp only [leadAt, trailAt, h.closed, hclosed, h.outStart, h.outLen, and_self]

theorem StampsTaken.kept {s : State} {r r' : TrackRecord} (h : RecordKept r r') (hclosed : r.isOpen = false)
    (hstamps : StampsTaken s r) : StampsTaken s r' := by
  obtain ⟨hlead, htrail⟩ := h.edges (s := s) hclosed
  intro a b hsect
  obtain ⟨hle, hlx, hte, htx⟩ := hstamps a b hsect
  rw [hlead, htrail]
  exact ⟨h.leadEntry ∘ hle, h.leadExit ∘ hlx, h.trailEntry ∘ hte, h.trailExit ∘ htx⟩

theorem Exited.kept {s : State} {r r' : TrackRecord} (h : RecordKept r r') (hexited : Exited s r) : Exited s r' := by
  obtain ⟨hclosed, hedge, hdisposition, hstamps⟩ := hexited
  refine ⟨h.closed, ?_, h.disposition hdisposition, hstamps.kept h hclosed⟩
  rwa [(h.edges hclosed).2]

/-- What the edges are measured by, and the settings of the moves. -/
structure SameMeasure (s t : State) : Prop where
  converter : t.converter = s.converter
  tunnel : t.tunnel = s.tunnel
  geometry : geometryOf t = geometryOf s

theorem SameMeasure.belt {s t : State} (h : SameMeasure s t) : Machine.belt t = Machine.belt s := by
  simp only [Machine.belt, quantity, h.converter]

theorem SameMeasure.edges {s t : State} (h : SameMeasure s t) (r : TrackRecord) :
    leadAt t r = leadAt s r ∧ trailAt t r = trailAt s r := by
  simp only [leadAt, trailAt, h.belt, and_self]

theorem SameMeasure.exited {s t : State} {r : TrackRecord} (h : SameMeasure s t) (hexited : Exited t r) : Exited s r := by
  obtain ⟨hlead, htrail⟩ := h.edges r
  unfold Exited StampsTaken at *
  rwa [hlead, htrail, h.geometry, h.tunnel] at hexited

theorem RecordsWorked.measure {s t : State} (h : RecordsWorked s t) : SameMeasure s t := by
  obtain ⟨v, hv⟩ := h.track
  exact ⟨h.converter, h.tunnel, by simp only [geometryOf, hv, h.freeIndex]⟩

/-- The disposition fixed at an exit move (R178). -/
def disposed (r : TrackRecord) : TrackRecord := { r with disposition := some (dispositionOf r), cutEmitted := false }

theorem leaveTunnel_eq (i : Fin 64) (rest : List (Fin 64)) (s : State) : leaveTunnel i rest s =
    (setRecord (dwellChecks i s) i (disposed (recordAt (dwellChecks i s) i))).withTrack
      { (setRecord (dwellChecks i s) i (disposed (recordAt (dwellChecks i s) i))).track with
        tunnel := rest, exit := (dwellChecks i s).track.exit ++ [i] } := rfl

theorem setDisposed_worked (i : Fin 64) (s : State) : RecordsWorked s (setRecord s i (disposed (recordAt s i))) :=
  setRecord_worked rfl fun hclosed => ⟨hclosed, rfl, rfl, id, id, id, id, fun _ => by simp [disposed]⟩

/-- The records after an exit move of the head of TUNNEL with its stamps taken. -/
def exitedOne (ts : Timestamp) (i : Fin 64) (s : State) : State :=
  setRecord (dwellChecks i (stampRecord ts i s)) i (disposed (recordAt (dwellChecks i (stampRecord ts i s)) i))

theorem exitedOne_worked (ts : Timestamp) (i : Fin 64) (s : State) : RecordsWorked s (exitedOne ts i s) :=
  (stampRecord_worked ts i s).trans ((dwellChecks_worked i _).trans (setDisposed_worked i _))

theorem leaveTunnel_exitedOne (ts : Timestamp) (i : Fin 64) (rest : List (Fin 64)) (s : State) :
    leaveTunnel i rest (stampRecord ts i s) = (exitedOne ts i s).withTrack
      { (exitedOne ts i s).track with tunnel := rest, exit := s.track.exit ++ [i] } := by
  obtain ⟨v, hv⟩ := ((stampRecord_worked ts i s).trans (dwellChecks_worked i _)).track
  have hexit : (dwellChecks i (stampRecord ts i s)).track.exit = s.track.exit := by rw [hv]
  rw [leaveTunnel_eq, hexit]
  rfl

theorem stampRecord_taken (ts : Timestamp) (i : Fin 64) (s : State) : StampsTaken s (recordAt (stampRecord ts i s) i) := by
  intro a b hsect
  rw [stampRecord_some ts i hsect, recordAt_setRecord_same]
  exact ⟨fun h => stamp_taken ts _ ((edgeReached_iff _ _).mpr h), fun h => stamp_taken ts _ ((edgeReached_iff _ _).mpr h),
    fun h => stamp_taken ts _ ((edgeReached_iff _ _).mpr h), fun h => stamp_taken ts _ ((edgeReached_iff _ _).mpr h)⟩

theorem mayLeave_iff (s : State) (i : Fin 64) : mayLeave s i = true ↔
    s.track.records[i].isOpen = false ∧ i ∉ s.track.behind
      ∧ EdgeAt (trailAt s s.track.records[i]) (geometryOf s).exit := by
  rw [mayLeave, Bool.and_eq_true, Bool.not_eq_true', moves_iff]
  rfl

theorem exitedOne_exited {ts : Timestamp} {i : Fin 64} {s : State} (hopen : OpenIsOpen s) (h : mayLeave s i = true) :
    Exited s (exitedOne ts i s).track.records[i] := by
  obtain ⟨hclosed, -, hedge⟩ := (mayLeave_iff s i).mp h
  have hstamped := stampRecord_worked ts i s
  have hrest := (dwellChecks_worked i (stampRecord ts i s)).trans (setDisposed_worked i _)
  have hkept := hstamped.records hopen i hclosed
  have hkept' := hrest.records (hstamped.opened hopen) i hkept.closed
  refine ⟨hkept'.closed, ?_, ?_, (stampRecord_taken ts i s).kept hkept' hkept.closed⟩
  · have htrail := ((hkept.trans hkept').edges (s := s) hclosed).2
    exact htrail ▸ hedge
  · have hdisposed : (exitedOne ts i s).track.records[i] = disposed (recordAt (dwellChecks i (stampRecord ts i s)) i) :=
      recordAt_setRecord_same _ i _
    rw [hdisposed]
    simp [disposed]

/-- What a run of exit moves does: the records `moved` go from the head of TUNNEL to the tail of EXIT. -/
structure ExitRun (moved : List (Fin 64)) (s t : State) : Prop where
  measure : SameMeasure s t
  track : ∃ v, t.track = { s.track with records := v, tunnel := t.track.tunnel, exit := s.track.exit ++ moved }
  tunnel : s.track.tunnel = moved ++ t.track.tunnel
  opened : OpenIsOpen t
  kept : ∀ i : Fin 64, s.track.records[i].isOpen = false → RecordKept s.track.records[i] t.track.records[i]
  due : ∀ i ∈ moved, i ∉ s.track.behind ∧ Exited s t.track.records[i]

theorem ExitRun.none {s : State} (hopen : OpenIsOpen s) : ExitRun [] s s :=
  ⟨⟨rfl, rfl, rfl⟩, ⟨s.track.records, by rw [List.append_nil]⟩, rfl, hopen, fun _ h => .refl h, fun i h => nomatch h⟩

theorem ExitRun.cons {ts : Timestamp} {i : Fin 64} {rest moved : List (Fin 64)} {s t : State} (hopen : OpenIsOpen s)
    (htunnel : s.track.tunnel = i :: rest) (hleave : mayLeave s i = true)
    (h : ExitRun moved (leaveTunnel i rest (stampRecord ts i s)) t) : ExitRun (i :: moved) s t := by
  have hworked := exitedOne_worked ts i s
  have hexited := exitedOne_exited (ts := ts) hopen hleave
  rw [leaveTunnel_exitedOne] at h
  obtain ⟨hmeasure, ⟨v, hv⟩, hrest, hopened, hkept, hdue⟩ := h
  obtain ⟨w, hw⟩ := hworked.track
  have hmeasured : SameMeasure s ((exitedOne ts i s).withTrack
      { (exitedOne ts i s).track with tunnel := rest, exit := s.track.exit ++ [i] }) :=
    ⟨hworked.converter, hworked.tunnel, hworked.measure.geometry⟩
  have hrest' : rest = moved ++ t.track.tunnel := hrest
  refine ⟨⟨hmeasure.converter.trans hmeasured.converter, hmeasure.tunnel.trans hmeasured.tunnel,
    hmeasure.geometry.trans hmeasured.geometry⟩, ⟨v, ?_⟩, by rw [htunnel, hrest', List.cons_append], hopened,
    fun j hj => ?_, fun j hj => ?_⟩
  · rw [hv]
    simp [hw]
  · have hfirst := hworked.records hopen j hj
    exact hfirst.trans (hkept j hfirst.closed)
  · obtain rfl | hj := List.mem_cons.mp hj
    · exact ⟨((mayLeave_iff s j).mp hleave).2.1, hexited.kept (hkept j hexited.1)⟩
    · obtain ⟨hbehind, hafter⟩ := hdue j hj
      refine ⟨?_, hmeasured.exited hafter⟩
      rw [State.withTrack_track, hw] at hbehind
      exact hbehind

theorem exitMoves_run (ts : Timestamp) (n : Nat) (s : State) (hopen : OpenIsOpen s) (hn : s.track.tunnel.length ≤ n) :
    ∃ moved, ExitRun moved s (exitMoves ts n s)
      ∧ ∀ i rest, (exitMoves ts n s).track.tunnel = i :: rest → mayLeave (exitMoves ts n s) i = false := by
  induction n generalizing s with
  | zero =>
    have hempty : s.track.tunnel = [] := List.length_eq_zero_iff.mp (Nat.le_zero.mp hn)
    exact ⟨[], .none hopen, fun i rest h => nomatch hempty.symm.trans h⟩
  | succ n ih =>
    rw [exitMoves]
    split
    · next hempty => exact ⟨[], .none hopen, fun i rest h => nomatch hempty.symm.trans h⟩
    · next i rest htunnel =>
      split
      · next hleave =>
        have hopened : OpenIsOpen (leaveTunnel i rest (stampRecord ts i s)) := by
          rw [leaveTunnel_exitedOne]
          exact (exitedOne_worked ts i s).opened hopen
        have hlength : (leaveTunnel i rest (stampRecord ts i s)).track.tunnel.length ≤ n := by
          rw [htunnel, List.length_cons] at hn
          exact Nat.le_of_succ_le_succ hn
        obtain ⟨moved, hrun, hhead⟩ := ih _ hopened hlength
        exact ⟨i :: moved, .cons hopen htunnel hleave hrun, hhead⟩
      · next hstays =>
        refine ⟨[], .none hopen, fun j l h => ?_⟩
        obtain ⟨rfl, -⟩ := List.cons.inj (htunnel.symm.trans h)
        simpa using hstays

theorem exitWork_moves : ExitMoves := by
  intro ts s t ht hopen
  refine ⟨fun hlost => ?_, fun hfound => ?_⟩
  · rw [ht, exitWork, if_pos hlost]
  · rw [exitWork, hfound, if_neg (by simp)] at ht
    subst ht
    obtain ⟨moved, ⟨hmeasure, ⟨v, hv⟩, htunnel, -, -, hdue⟩, hhead⟩ := exitMoves_run ts _ s hopen le_rfl
    generalize exitMoves ts s.track.tunnel.length s = t at *
    refine ⟨moved, htunnel, by rw [hv], by rw [hv], by rw [hv], by rw [hv], by rw [hv], fun i hi r hr => ?_,
      fun i rest h => ?_⟩
    · subst hr
      exact hdue i hi
    · have hstays := hhead i rest h
      rw [← Bool.not_eq_true, mayLeave_iff, (hmeasure.edges _).2, hmeasure.geometry] at hstays
      have hbehind : t.track.behind = s.track.behind := by rw [hv]
      rw [hbehind] at hstays
      cases hisopen : t.track.records[i].isOpen with
      | true => exact .inr (.inl rfl)
      | false => tauto

theorem leaveTunnel_leaves (i : Fin 64) (rest : List (Fin 64)) (s : State) (t : State) (ht : t = leaveTunnel i rest s) :
    t.track.tunnel = rest ∧ t.track.exit = s.track.exit ++ [i] ∧ t.track.runout = s.track.runout
      ∧ t.track.done = s.track.done ∧ t.track.free = s.track.free ∧ t.track.records[i].cutEmitted = false
      ∧ t.track.records[i].disposition = some (dispositionOf t.track.records[i]) := by
  obtain ⟨v, hv⟩ := (dwellChecks_worked i s).track
  have hset : t.track.records[i] = disposed (recordAt (dwellChecks i s) i) := by
    rw [ht]
    exact recordAt_setRecord_same _ i _
  rw [hset]
  rw [leaveTunnel_eq] at ht
  subst ht
  simp only [State.withTrack_track, setRecord, hv]
  exact ⟨trivial, trivial, trivial, trivial, trivial, rfl, rfl⟩

/-! ### The cuts (R179 to R181) -/

/-- The state of a cut before its notices are raised. -/
def cutMoved (i : Fin 64) (rest : List (Fin 64)) (s : State) : State :=
  (s.withTakeOff { s.takeOff with gate := fateOf (recordAt s i) }).withTrack
    { s.track with exit := rest, done := s.track.done ++ [i] }

theorem cutHead_eq (i : Fin 64) (rest : List (Fin 64)) (s : State) : cutHead i rest s =
    raiseAll (cutNotices (recordAt s i) (s.track.done.length + 1)) (cutMoved i rest s) := by
  have hlength : (cutMoved i rest s).track.done.length = s.track.done.length + 1 := by simp [cutMoved]
  rw [← hlength]
  rfl

theorem cutHead_track (i : Fin 64) (rest : List (Fin 64)) (s : State) : ∃ v, (cutHead i rest s).track =
    { s.track with records := v, exit := rest, done := s.track.done ++ [i] } := by
  obtain ⟨v, hv⟩ := (raiseAll_worked (cutNotices (recordAt s i) (s.track.done.length + 1)) (cutMoved i rest s)).track
  rw [cutHead_eq, hv]
  exact ⟨v, rfl⟩

theorem cutHead_pending {i : Fin 64} {rest : List (Fin 64)} {s : State} {n : Notice}
    (h : n ∈ cutNotices (recordAt s i) (s.track.done.length + 1)) : PendingIfEnabled n s (cutHead i rest s) := by
  rw [cutHead_eq]
  exact fun he => raiseAll_pending h (cutMoved i rest s) he

theorem cutHead_measure (i : Fin 64) (rest : List (Fin 64)) (s : State) : SameMeasure s (cutHead i rest s) := by
  have h := (raiseAll_worked (cutNotices (recordAt s i) (s.track.done.length + 1)) (cutMoved i rest s)).measure
  rw [cutHead_eq]
  exact ⟨h.converter, h.tunnel, h.geometry⟩

theorem cuts_leave (n : Nat) (s : State) (hn : s.track.exit.length ≤ n) :
    SameMeasure s (cuts n s) ∧ (cuts n s).track.exit <:+ s.track.exit
      ∧ ∀ i rest, (cuts n s).track.exit = i :: rest →
          reached (belt (cuts n s)) (cutTarget (cuts n s) (recordAt (cuts n s) i)) = false := by
  induction n generalizing s with
  | zero =>
    have hempty : s.track.exit = [] := List.length_eq_zero_iff.mp (Nat.le_zero.mp hn)
    exact ⟨⟨rfl, rfl, rfl⟩, List.suffix_rfl, fun i rest h => nomatch hempty.symm.trans h⟩
  | succ n ih =>
    rw [cuts]
    split
    · next hempty => exact ⟨⟨rfl, rfl, rfl⟩, List.suffix_rfl, fun i rest h => nomatch hempty.symm.trans h⟩
    · next i rest hexit =>
      split
      · obtain ⟨v, hv⟩ := cutHead_track i rest s
        have hrest : (cutHead i rest s).track.exit = rest := by rw [hv]
        have hlength : (cutHead i rest s).track.exit.length ≤ n := by
          rw [hexit, List.length_cons] at hn
          rw [hrest]
          omega
        obtain ⟨hmeasure, hsuffix, hhead⟩ := ih _ hlength
        have hcut := cutHead_measure i rest s
        refine ⟨⟨hmeasure.converter.trans hcut.converter, hmeasure.tunnel.trans hcut.tunnel,
          hmeasure.geometry.trans hcut.geometry⟩, ?_, hhead⟩
        rw [hrest] at hsuffix
        rw [hexit]
        exact hsuffix.trans (List.suffix_cons i rest)
      · next hstays =>
        refine ⟨⟨rfl, rfl, rfl⟩, List.suffix_rfl, fun j l h => ?_⟩
        obtain ⟨rfl, -⟩ := List.cons.inj (hexit.symm.trans h)
        simpa using hstays

/-! ### The cut entry (R182) -/

theorem formCutEntry_none {s : State} (h : dueHead s = none) :
    formCutEntry s = s.withTakeOff { s.takeOff with cutEntry := none } := by
  rw [formCutEntry, h]

theorem dueHead_cons {s : State} {i : Fin 64} {rest : List (Fin 64)} (hexit : s.track.exit = i :: rest)
    (hfound : beltLost s = false) : dueHead s =
      if distance (cutTarget s (recordAt s i)) (belt s) ≤ (geometryOf s).cutWindow then some i else none := by
  rw [dueHead, hexit]
  simp [hfound]

theorem dueHead_none {s : State} (h : s.track.exit = [] ∨ beltLost s = true) : dueHead s = none := by
  rw [dueHead]
  split
  · rfl
  · next hexit =>
    obtain hempty | hlost := h
    · exact nomatch hempty.symm.trans hexit
    · simp [hlost]

theorem formCutEntry_forms (s : State) :
    ((s.track.exit = [] ∨ beltLost s = true) → formCutEntry s = s.withTakeOff { s.takeOff with cutEntry := none })
    ∧ ∀ i rest d r, s.track.exit = i :: rest → beltLost s = false → r = s.track.records[i] → r.disposition = some d →
        ∀ aim, aim = outStartOf r + BitVec.ofNat 32 (outLenOf r) + BitVec.ofNat 32 (geometryOf s).cut →
        ((geometryOf s).cutWindow < (aim - belt s).toNat →
          formCutEntry s = s.withTakeOff { s.takeOff with cutEntry := none })
        ∧ ((aim - belt s).toNat ≤ (geometryOf s).cutWindow →
          formCutEntry s = (s.withTrack { s.track with records := s.track.records.set i { r with cutEmitted := true } }).withTakeOff
            { s.takeOff with cutEntry := some { position := aim, record := i, disposition := d } }) := by
  refine ⟨fun h => formCutEntry_none (dueHead_none h), fun i rest d r hexit hfound hr hd aim haim => ?_⟩
  subst hr haim
  have hdue := dueHead_cons hexit hfound
  refine ⟨fun hfar => formCutEntry_none (hdue.trans (if_neg (Nat.not_le.mpr hfar))), fun hnear => ?_⟩
  have hfate : fateOf (recordAt s i) = d := by rw [fateOf, recordAt, hd, Option.getD_some]
  rw [formCutEntry, hdue.trans (if_pos hnear), ← hfate]
  rfl

/-- Settles O34: the records behind the knife, the entry and exit moves, the cuts, and the cut entry. -/
theorem exitMovesAndCuts : Obligations.ExitMovesAndCuts := by
  refine ⟨recordsBehindTheKnife, entryWork_moves, exitWork_moves, leaveTunnel_leaves, fun i rest s d hd t ht => ?_,
    fun s t ht => ?_, formCutEntry_forms⟩
  · subst ht
    have hfate : fateOf (recordAt s i) = d := by rw [fateOf, recordAt, hd, Option.getD_some]
    obtain ⟨v, hv⟩ := cutHead_track i rest s
    refine ⟨?_, by rw [hv], by rw [hv], by rw [hv], by rw [hv], by rw [hv], fun hreject => cutHead_pending ?_,
      fun hlate => cutHead_pending ?_, fun hfull => cutHead_pending ?_⟩
    · rw [cutHead_eq, ← hfate]
      simp [cutMoved]
    · simp [cutNotices, hfate, hreject]
    · have hnever : (recordAt s i).cutEmitted = false := hlate
      simp [cutNotices, hnever]
    · simp [cutNotices, hfull]
  · subst ht
    obtain ⟨hmeasure, hsuffix, hhead⟩ := cuts_leave _ s le_rfl
    refine ⟨hsuffix, fun i rest r h hr => ?_⟩
    subst hr
    have hshort := hhead i rest h
    rw [hmeasure.belt, cutTarget, hmeasure.geometry] at hshort
    exact hshort

end Sys2Proof.Proofs

/-! Zones, valves, exposure, transit stamps and rolls (O36). -/

namespace Sys2Proof.Proofs

open Machine Statements Safety

/-! ### Transit stamps (R155) -/

theorem stamp_rule (edge : Position) (d : Nat) (ts : Timestamp) (old : Option Timestamp) :
    (old ≠ none → stamp (edgeReached edge d) ts old = old)
      ∧ (old = none → EdgeAt edge d → stamp (edgeReached edge d) ts old = some ts)
      ∧ (old = none → ¬EdgeAt edge d → stamp (edgeReached edge d) ts old = none) := by
  refine ⟨stamp_kept _ ts, fun hold hedge => ?_, fun hold hedge => ?_⟩
  · rw [hold, (edgeReached_iff edge d).mpr hedge]
    rfl
  · rw [hold, Bool.eq_false_iff.mpr (mt (edgeReached_iff edge d).mp hedge)]
    rfl

theorem stamp_stamp (holds : Bool) (ts : Timestamp) (old : Option Timestamp) :
    stamp holds ts (stamp holds ts old) = stamp holds ts old := by
  cases holds <;> cases old <;> rfl

theorem stamped_stamped (sect : Nat × Nat) (ts : Timestamp) (p : Position) (r : TrackRecord) :
    stamped sect ts p (stamped sect ts p r) = stamped sect ts p r := by
  have hlead : leadEdge p (stamped sect ts p r) = leadEdge p r := rfl
  have htrail : trailEdge p (stamped sect ts p r) = trailEdge p r := rfl
  rw [stamped, hlead, htrail]
  simp only [stamped, stampTransits, stamp_stamp]

/-- Stamping a list writes the records of the list alone, each as if it stood in the list once. -/
theorem stampAll_records {sect : Nat × Nat} (ts : Timestamp) (l : List (Fin 64)) (s : State)
    (h : setSection s.tunnel = some sect) : ∃ v : Vector TrackRecord 64,
      stampAll ts l s = s.withTrack { s.track with records := v }
        ∧ ∀ i : Fin 64, v[i] = if i ∈ l then stamped sect ts (belt s) s.track.records[i] else s.track.records[i] := by
  induction l generalizing s with
  | nil => exact ⟨s.track.records, rfl, fun i => (if_neg (by simp)).symm⟩
  | cons j l ih =>
    have hset := stampRecord_some ts j h
    obtain ⟨v, hv, hrecords⟩ := ih (stampRecord ts j s) (by rw [hset]; exact h)
    rw [hset] at hv hrecords
    refine ⟨v, ?_, fun i => ?_⟩
    · rw [stampAll, hset, hv]
      rfl
    · rw [hrecords]
      have hbelt : ∀ r, belt (setRecord s j r) = belt s := fun r => rfl
      rw [hbelt]
      by_cases hij : j = i
      · subst hij
        have hsame : (setRecord s j (stamped sect ts (belt s) (recordAt s j))).track.records[j] =
            stamped sect ts (belt s) s.track.records[j] := recordAt_setRecord_same s j _
        rw [hsame, stamped_stamped, ite_self, if_pos List.mem_cons_self]
      · have hother : (setRecord s j (stamped sect ts (belt s) (recordAt s j))).track.records[i] = s.track.records[i] :=
          recordAt_setRecord_other s j i _ hij
        have hmem : i ∈ j :: l ↔ i ∈ l := by
          rw [List.mem_cons]
          exact or_iff_right fun e => hij e.symm
        rw [hother]
        simp only [hmem]

theorem stampAll_without_section (ts : Timestamp) (l : List (Fin 64)) (s : State) (h : setSection s.tunnel = none) :
    stampAll ts l s = s := by
  induction l with
  | nil => rfl
  | cons i l ih => rw [stampAll, stampRecord_none ts i h, ih]

theorem transitWork_stamps : TransitsAreStamped := by
  intro ts s t ht
  refine ⟨fun h => ?_, fun a b hfound hsect => ?_⟩
  · rw [ht, transitWork]
    split
    · rfl
    · next hfound =>
      obtain hlost | hnone := h
      · exact absurd hlost hfound
      · exact stampAll_without_section ts _ s hnone
  · rw [transitWork, hfound, if_neg (by simp)] at ht
    obtain ⟨v, hv, hrecords⟩ := stampAll_records ts s.track.tunnel s hsect
    rw [hv] at ht
    subst ht
    refine ⟨rfl, fun i r hr => ⟨fun hi => ?_, fun hi => ?_⟩⟩
    · rw [hr]
      exact (hrecords i).trans (if_neg hi)
    · have hstamped : v[i] = stamped (a, b) ts (belt s) r := by
        rw [hr]
        exact (hrecords i).trans (if_pos hi)
      refine ⟨stampTransits (a, b) ts (leadAt s r) (trailAt s r) r.transits, hstamped, fun edge d old new h => ?_⟩
      obtain h | h | h | h := h <;>
      · obtain ⟨rfl, rfl, rfl, rfl⟩ : edge = _ ∧ d = _ ∧ old = _ ∧ new = _ := by
          simpa only [Prod.mk.injEq] using h
        exact stamp_rule _ _ ts _

/-! ### Zone states (R145 to R147) -/

section

variable {z : Zone} {t : Nat}

theorem zoneCrossing_low (hstate : z.state = .inBand ∨ z.state = .high) (h : t + z.settings.hysteresis < z.settings.bandLow) :
    zoneCrossing z t = some .low := by
  have hbelow : (t : Int) < (z.settings.bandLow : Int) - z.settings.hysteresis := by omega
  rw [zoneCrossing]
  simp [hbelow, hstate]

theorem zoneCrossing_high (hstate : z.state = .inBand ∨ z.state = .low) (hband : z.settings.bandLow ≤ z.settings.bandHigh)
    (h : z.settings.bandHigh + z.settings.hysteresis < t) : zoneCrossing z t = some .high := by
  have hnotBelow : ¬(t : Int) < (z.settings.bandLow : Int) - z.settings.hysteresis := by omega
  rw [zoneCrossing]
  simp [hnotBelow, h, hstate]

theorem zoneCrossing_none (hlow : z.state = .inBand ∨ z.state = .high → z.settings.bandLow ≤ t + z.settings.hysteresis)
    (hhigh : z.state = .inBand ∨ z.state = .low → t ≤ z.settings.bandHigh + z.settings.hysteresis) :
    zoneCrossing z t = none := by
  have hbelow : (decide ((t : Int) < (z.settings.bandLow : Int) - z.settings.hysteresis)
      && (decide (z.state = .inBand) || decide (z.state = .high))) = false := by
    rw [← Bool.not_eq_true]
    simp only [Bool.and_eq_true, Bool.or_eq_true, decide_eq_true_eq, not_and]
    intro hb hstate
    have := hlow hstate
    omega
  have habove : (decide (z.settings.bandHigh + z.settings.hysteresis < t)
      && (decide (z.state = .inBand) || decide (z.state = .low))) = false := by
    rw [← Bool.not_eq_true]
    simp only [Bool.and_eq_true, Bool.or_eq_true, decide_eq_true_eq, not_and]
    intro ha hstate
    have := hhigh hstate
    omega
  simp only [zoneCrossing, hbelow, habove, Bool.false_eq_true, if_false]

end

/-- A zone that regulates with a temperature is updated by its crossing or its settling. -/
theorem zoneUpdate_regulating {z : Zone} {q : Quantity} (hoff : z.state ≠ .off) (hlost : z.state ≠ .lost)
    (hq : q.lost = false) : zoneUpdate z q = zoneUpdateInBand z q.value.toNat := by
  rw [zoneUpdate, if_neg hoff, hq, if_neg (by simp), if_neg hlost]

theorem zoneUpdateInBand_crosses {z : Zone} {t : Nat} {st : ZoneState} (h : zoneCrossing z t = some st) :
    zoneUpdateInBand z t = ({ z with state := st, progress := 0 }, crossingNotice st) := by
  rw [zoneUpdateInBand, h]

theorem zoneUpdateInBand_settles {z : Zone} {t : Nat} (h : zoneCrossing z t = none) :
    zoneUpdateInBand z t = (if z.state = .inBand then z else zoneSettling z t, []) := by
  rw [zoneUpdateInBand, h]

/-- The zone states in which a zone is neither off nor lost. -/
theorem regulating_of {z : Zone} (h : z.state = .inBand ∨ z.state = .warming ∨ z.state = .low ∨ z.state = .high) :
    z.state ≠ .off ∧ z.state ≠ .lost := by
  obtain h | h | h | h := h <;> simp [h]

/-- The clauses of O36 on the state of a zone. -/
def ZoneFollowsItsRules (z : Zone) (q : Quantity) (t : Nat) : Prop :=
    (z.state = .off → zoneUpdate z q = (z, []))
    ∧ (z.state ≠ .off → q.lost = true → zoneUpdate z q = ({ z with state := .lost, progress := 0 }, []))
    ∧ ((z.state = .inBand ∨ z.state = .high) → q.lost = false → t + z.settings.hysteresis < z.settings.bandLow →
        zoneUpdate z q = ({ z with state := .low, progress := 0 }, [.zoneLow]))
    ∧ ((z.state = .inBand ∨ z.state = .low) → q.lost = false → z.settings.bandLow ≤ z.settings.bandHigh →
        z.settings.bandHigh + z.settings.hysteresis < t →
        zoneUpdate z q = ({ z with state := .high, progress := 0 }, [.zoneHigh]))
    ∧ (z.state = .inBand → q.lost = false → z.settings.bandLow ≤ t + z.settings.hysteresis →
        t ≤ z.settings.bandHigh + z.settings.hysteresis → zoneUpdate z q = (z, []))
    ∧ (z.state = .lost → q.lost = false → zoneUpdate z q = zoneUpdate { z with state := .warming, progress := 0 } q)
    ∧ ((z.state = .warming ∨ z.state = .low ∨ z.state = .high) → q.lost = false →
        z.settings.bandLow ≤ t → t ≤ z.settings.bandHigh →
        zoneUpdate z q = (if z.settings.settleCount ≤ z.progress + 1 then { z with state := .inBand, progress := 0 }
          else { z with progress := z.progress + 1 }, []))
    ∧ ((z.state = .warming ∨ z.state = .low ∨ z.state = .high) → q.lost = false →
        (t < z.settings.bandLow ∨ z.settings.bandHigh < t) →
        (z.state = .low → t ≤ z.settings.bandHigh + z.settings.hysteresis) →
        (z.state = .high → z.settings.bandLow ≤ t + z.settings.hysteresis) →
        zoneUpdate z q = ({ z with progress := 0 }, []))

theorem notInBand_of {z : Zone} (h : z.state = .warming ∨ z.state = .low ∨ z.state = .high) : z.state ≠ .inBand := by
  obtain h | h | h := h <;> simp [h]

theorem zoneUpdate_follows (z : Zone) (q : Quantity) (t : Nat) (ht : t = q.value.toNat) : ZoneFollowsItsRules z q t := by
  subst ht
  refine ⟨fun hoff => if_pos hoff, fun hoff hlost => ?_, fun hstate hq hlow => ?_, fun hstate hq hband hhigh => ?_,
    fun hstate hq hlow hhigh => ?_, fun hstate hq => ?_, fun hstate hq hlow hhigh => ?_,
    fun hstate hq hout hlow hhigh => ?_⟩
  · rw [zoneUpdate, if_neg hoff, hlost, if_pos rfl]
  · obtain ⟨hoff, hlost⟩ := regulating_of (by tauto : z.state = .inBand ∨ z.state = .warming ∨ z.state = .low ∨ z.state = .high)
    rw [zoneUpdate_regulating hoff hlost hq, zoneUpdateInBand_crosses (zoneCrossing_low hstate hlow)]
    rfl
  · obtain ⟨hoff, hlost⟩ := regulating_of (by tauto : z.state = .inBand ∨ z.state = .warming ∨ z.state = .low ∨ z.state = .high)
    rw [zoneUpdate_regulating hoff hlost hq, zoneUpdateInBand_crosses (zoneCrossing_high hstate hband hhigh)]
    rfl
  · obtain ⟨hoff, hlost⟩ := regulating_of (.inl hstate)
    rw [zoneUpdate_regulating hoff hlost hq, zoneUpdateInBand_settles (zoneCrossing_none (fun _ => hlow) fun _ => hhigh),
      if_pos hstate]
  · have hwarming : zoneUpdate { z with state := .warming, progress := 0 } q =
        zoneUpdateInBand { z with state := .warming, progress := 0 } q.value.toNat :=
      zoneUpdate_regulating (by simp) (by simp) hq
    rw [hwarming, zoneUpdate, if_neg (by simp [hstate]), hq, if_neg (by simp), if_pos hstate]
  · obtain ⟨hoff, hlost⟩ := regulating_of (.inr hstate)
    have hnone : zoneCrossing z q.value.toNat = none := zoneCrossing_none (fun _ => by omega) fun _ => by omega
    rw [zoneUpdate_regulating hoff hlost hq, zoneUpdateInBand_settles hnone, if_neg (notInBand_of hstate), zoneSettling,
      if_pos ⟨hlow, hhigh⟩]
  · obtain ⟨hoff, hlost⟩ := regulating_of (.inr hstate)
    have hband := notInBand_of hstate
    have hnone : zoneCrossing z q.value.toNat = none :=
      zoneCrossing_none (fun h => hhigh (h.resolve_left hband)) fun h => hlow (h.resolve_left hband)
    have houtside : ¬(z.settings.bandLow ≤ q.value.toNat ∧ q.value.toNat ≤ z.settings.bandHigh) := by omega
    rw [zoneUpdate_regulating hoff hlost hq, zoneUpdateInBand_settles hnone, if_neg hband, zoneSettling, if_neg houtside]

/-! ### Valves (R148 to R150) -/

theorem clampInt_eq (lo hi x : Int) (h : lo ≤ hi) : clampInt lo hi x = max lo (min hi x) := by
  unfold clampInt
  split
  · omega
  · split <;> omega

theorem valveOf_regulates {first door hold : Bool} {t : Nat} {z : Zone} (hoff : z.state ≠ .off) (hlost : z.state ≠ .lost)
    (hdoor : door = false) (hhold : hold = false) : valveOf first door hold t z = regulate first z t := by
  subst hdoor hhold
  rw [valveOf, if_neg hoff, if_neg (by simp), if_neg (by simp), if_neg hlost]

theorem regulate_follows (first : Bool) (z : Zone) (t : Nat) (e sum : Int) (he : e = (z.settings.setPoint : Int) - t)
    (hsum : sum = max 0 (min 256000 ((z.integrator : Int) + z.settings.ki * e))) :
    ((regulate first z t).integrator : Int) = sum
      ∧ ((regulate first z t).opening : Int) =
          max 0 (min 1000 ((z.settings.bias : Int) + ((z.settings.kp : Int) * e).tdiv 16
            + if first = true then 0 else sum / 256)) := by
  rw [← clampInt_eq 0 256000 _ (by omega)] at hsum
  rw [← clampInt_eq 0 1000 _ (by omega)]
  subst he hsum
  refine ⟨Int.toNat_of_nonneg ?_, Int.toNat_of_nonneg ?_⟩
  · rw [clampInt_eq _ _ _ (by omega)]
    omega
  · rw [clampInt_eq _ _ _ (by omega)]
    omega

theorem valveOf_follows (first door hold : Bool) (t : Nat) (z : Zone) :
    ((z.state = .off ∨ door = true) → valveOf first door hold t z = { z with opening := 0 })
    ∧ (z.state ≠ .off → door = false → hold = true → valveOf first door hold t z = z)
    ∧ (z.state = .lost → door = false → hold = false → valveOf first door hold t z = { z with opening := z.settings.fallback })
    ∧ (z.state ≠ .off → z.state ≠ .lost → door = false → hold = false → ∀ e sum : Int,
        e = (z.settings.setPoint : Int) - t → sum = max 0 (min 256000 ((z.integrator : Int) + z.settings.ki * e)) →
        ((valveOf first door hold t z).integrator : Int) = sum
        ∧ ((valveOf first door hold t z).opening : Int) =
            max 0 (min 1000 ((z.settings.bias : Int) + ((z.settings.kp : Int) * e).tdiv 16
              + if first = true then 0 else sum / 256))) := by
  refine ⟨fun h => ?_, fun hoff hdoor hhold => ?_, fun hlost hdoor hhold => ?_, fun hoff hlost hdoor hhold => ?_⟩
  · rw [valveOf]
    split
    · rfl
    · next hoff => exact if_pos (h.resolve_left hoff)
  · rw [valveOf, if_neg hoff, hdoor, hhold]
    rfl
  · rw [valveOf, if_neg (by simp [hlost]), hdoor, hhold, if_neg (by simp), if_neg (by simp), if_pos hlost]
  · rw [valveOf_regulates hoff hlost hdoor hhold]
    exact regulate_follows first z t

/-! ### Exposure (R152) -/

/-- A raised notice leaves the exposure of every record. -/
theorem closeHalted_offBand (s : State) (i : Fin 64) :
    (closeHalted s).track.records[i].offBand = s.track.records[i].offBand := by
  have hset : ∀ (t : State) (j : Fin 64) (f : TrackRecord → TrackRecord), (f (recordAt t j)).offBand = (recordAt t j).offBand →
      (updateRecord t j f).track.records[i].offBand = t.track.records[i].offBand := fun t j f hf => by
    by_cases hji : j = i
    · subst hji
      exact (congrArg TrackRecord.offBand (recordAt_setRecord_same t j _)).trans hf
    · exact congrArg TrackRecord.offBand (recordAt_setRecord_other t j i _ hji)
  unfold closeHalted
  split
  · next j _ =>
    split
    · obtain ⟨b, hb⟩ := markSpliced_track (updateRecord s j (closedAborted (infeed s) (belt s))) j
      have hclosed : (noOpenRecord (closeAgainstJoint (updateRecord s j (closedAborted (infeed s) (belt s))) j)).track =
          (updateRecord (updateRecord s j (closedAborted (infeed s) (belt s))) j (withSpliced b)).track :=
        (closeAgainstJoint_track _ j).trans hb
      exact (congrArg (fun t : Track => t.records[i].offBand) hclosed).trans ((hset _ j _ rfl).trans (hset _ j _ rfl))
    · unfold closeFlat
      split
      · exact hset _ _ _ rfl
      · rfl
  · rfl

theorem raiseNotice_offBand (n : Notice) (s : State) (i : Fin 64) :
    (raiseNotice n s).track.records[i].offBand = s.track.records[i].offBand := by
  obtain h | ⟨t, rfl, h | ⟨-, h⟩⟩ := raiseNotice_cases n s
  · rw [h]
  · rw [h]
    rfl
  · rw [h, enterHalted_eq, settleHalted]
    split
    · rw [closeHalted_offBand]
      simp
    · simp

/-- The record and the residue that an exposure of record `i` writes. -/
theorem addExposure_follows (interval : Nat) (i : Fin 64) (s : State) :
    (addExposure interval i s).track.records[i].offBand =
        min (s.track.records[i].offBand + (interval + s.tunnel.residues[i]) / 1000) 65535
      ∧ (addExposure interval i s).tunnel.residues[i] = (interval + s.tunnel.residues[i]) % 1000 := by
  have hraised : ∀ (c : Bool) (n : Notice) (t : State),
      (raiseWhen c n t).track.records[i].offBand = t.track.records[i].offBand := fun c n t => by
    unfold raiseWhen
    split
    · exact raiseNotice_offBand n t i
    · rfl
  unfold addExposure
  dsimp only
  generalize (match toleranceOf s (recordAt s i) with
    | some tol => decide (tol < saturate 65535 (recordAt s i).offBand ((interval + s.tunnel.residues[i]) / 1000))
        && !(recordAt s i).marks.underset
    | none => false) = exceeds
  constructor
  · rw [hraised]
    exact congrArg TrackRecord.offBand (recordAt_setRecord_same _ i _)
  · have htunnel : ∀ (c : Bool) (n : Notice) (t : State), (raiseWhen c n t).tunnel = t.tunnel := fun c n t => by simp
    rw [htunnel]
    simp [setRecord]

/-! ### Rolls (R163, R170) -/

theorem rollLength_follows (d : Nat) (r : Roll) : (d ≤ r.core → rollLength d r = 0)
    ∧ (r.core < d → rollLength d r = min ((d * d - r.core * r.core) * 3550 / (452 * r.thickness)) 4294967295) :=
  ⟨fun h => if_pos h, fun h => if_neg (Nat.not_le.mpr h)⟩

theorem replaceSpan_roll (s : State) : (replaceSpan s).roll = { s.roll with span := none } := by
  unfold replaceSpan
  split
  · split
    · exact congrArg (fun r : RollChange => { r with span := none }) (markSpliced_roll s _)
    · rfl
  · rfl

theorem confirmPaste_roll (s : State) : ∃ r : RollChange,
    r = { s.roll with
      spindleA := swapped (infeed s) s.roll.spindleA, spindleB := swapped (infeed s) s.roll.spindleB,
      span := some { j0 := infeed s + BitVec.ofNat 32 (geometryOf s).paster,
                     j1 := infeed s + BitVec.ofNat 32 (geometryOf s).paster + BitVec.ofNat 32 (geometryOf s).spliceLength },
      attempts := 0, splice := .clear }
      ∧ (confirmPaste s).roll = { r with budget := budgetOf r (geometryOf s).coreReserve } := by
  have hconverter : (replaceSpan s).converter = s.converter := by simp
  have hinfeed : infeed (replaceSpan s) = infeed s := by simp only [infeed, quantity, hconverter]
  have hgeometry : geometryOf (replaceSpan s) = geometryOf s := by
    unfold replaceSpan
    split
    · split
      · obtain ⟨b, hb⟩ := markSpliced_track s ‹_›
        have hindex : (markSpliced s ‹_›).freeIndex = s.freeIndex := by simp
        simp only [geometryOf, State.withRoll_track, State.withRoll_freeIndex, hb, hindex]
      · rfl
    · rfl
  refine ⟨_, rfl, ?_⟩
  unfold confirmPaste
  dsimp only
  rw [hinfeed, hgeometry, replaceSpan_roll]
  rfl

theorem confirmPaste_takes : PasteTakesTheNewRoll := by
  intro s old new hne hactive hloaded t ht
  subst ht
  obtain ⟨r, hr, hroll⟩ := confirmPaste_roll s
  rw [hroll]
  have hold : spindle r old = { spindle s.roll old with state := .expired } := by
    subst hr
    cases old <;> simp only [spindle] at hactive ⊢ <;> simp only [swapped, hactive]
  have hnew : spindle r new = { spindle s.roll new with state := .active, refPosition := some (infeed s) } := by
    subst hr
    cases new <;> simp only [spindle] at hloaded ⊢ <;> simp only [swapped, hloaded]
  have hfed : spindleIn r .active = some new := by
    cases old <;> cases new <;> simp_all [spindleIn, spindle]
  refine ⟨hold, hnew, by rw [hr], by rw [hr], by rw [hr], fun n hn => ?_⟩
  have hremaining : (spindle r new).remaining = some n := by rw [hnew]; exact hn
  simp only [budgetOf, hfed, hremaining]

/-- Settles O36: stamps, zone states, valves, exposure, roll lengths and the paste confirmation, rule by rule. -/
theorem zonesAndRollsFollowTheirRules : Obligations.ZonesAndRollsFollowTheirRules := by
  refine ⟨transitWork_stamps, zoneUpdate_follows, valveOf_follows, fun s => ⟨rfl, rfl, fun z q hq => ?_⟩,
    fun interval i s t ht hroom => ?_, rollLength_follows, confirmPaste_takes⟩
  · subst hq
    simp [regulateValves, quantityNat, zoneQuantity, Nat.add_comm]
  · subst ht
    obtain ⟨hoff, hresidue⟩ := addExposure_follows interval i s
    rw [hoff, hresidue, Nat.min_eq_left hroom]
    omega

end Sys2Proof.Proofs

/-! What the work of an ACTIVE arrival after the roll change controller's and after the governor's leaves (for O35, O60). -/

namespace Sys2Proof.Proofs

open Machine Statements Safety

/-! ### The roll change controller after its own work -/

/-- What later work of an arrival leaves of the roll change controller: the spindles and the attempts stand, a controller in
PASTE, CLEAR or FAILED keeps all but its joint span, and none enters PASTE or FAILED. -/
structure RollLater (r r' : RollChange) : Prop where
  spindleA : r'.spindleA = r.spindleA
  spindleB : r'.spindleB = r.spindleB
  attempts : r'.attempts = r.attempts
  stands : r.splice = .paste ∨ r.splice = .clear ∨ r.splice = .failed → r' = { r with span := r'.span }
  enters : r.splice ≠ .paste → r.splice ≠ .failed → r'.splice ≠ .paste ∧ r'.splice ≠ .failed

theorem RollLater.refl (r : RollChange) : RollLater r r := ⟨rfl, rfl, rfl, fun _ => rfl, fun h h' => ⟨h, h'⟩⟩

theorem RollLater.trans {r r' r'' : RollChange} (h : RollLater r r') (h' : RollLater r' r'') : RollLater r r'' where
  spindleA := h'.spindleA.trans h.spindleA
  spindleB := h'.spindleB.trans h.spindleB
  attempts := h'.attempts.trans h.attempts
  stands := fun hs => by
    have hkept := h.stands hs
    have hsplice : r'.splice = r.splice := by rw [hkept]
    have hkept' := h'.stands (by rwa [hsplice])
    rw [hkept'] at *
    rw [hkept]
  enters := fun hp hf => h'.enters (h.enters hp hf).1 (h.enters hp hf).2

/-- A change of the joint span alone. -/
theorem RollLater.of_span {r : RollChange} {x : Option JointSpan} : RollLater r { r with span := x } :=
  ⟨rfl, rfl, rfl, fun _ => rfl, fun h h' => ⟨h, h'⟩⟩

/-- A change of the splice state from one in which nothing stands into one that the controller may enter later. -/
theorem RollLater.of_splice {r : RollChange} {x : SpliceState} {n : Nat} {p : Option Timestamp}
    (hfrom : r.splice ≠ .paste ∧ r.splice ≠ .clear ∧ r.splice ≠ .failed) (hto : x ≠ .paste ∧ x ≠ .failed) :
    RollLater r { r with splice := x, matchCount := n, phase := p } :=
  ⟨rfl, rfl, rfl, fun h => by simp [hfrom] at h, fun _ _ => hto⟩

theorem haltedRoll_later (r : RollChange) : RollLater r (haltedRoll r) := by
  unfold haltedRoll
  split
  · next h => exact RollLater.of_splice (p := r.phase) (by simp [h]) (by simp)
  · exact .refl r

theorem settleSplice_later (r : RollChange) : RollLater r (settleSplice r) := by
  unfold settleSplice
  split
  · next h =>
    have hrest : restingState r ≠ .paste ∧ restingState r ≠ .failed := by
      unfold restingState
      split <;> simp
    refine RollLater.of_splice (p := r.phase) ?_ hrest
    obtain h | h := h <;> simp [h]
  · exact .refl r

theorem enterMatching_later {r : RollChange} (ts : Timestamp) (h : r.splice = .ready ∨ r.splice = .armed) :
    RollLater r (enterMatching ts r) := by
  refine RollLater.of_splice ?_ (by simp)
  obtain h | h := h <;> simp [h]

/-- Work of an arrival after the roll change controller's. -/
structure RollStep (s t : State) : Prop where
  later : RollLater s.roll t.roll

theorem RollStep.refl (s : State) : RollStep s s := ⟨.refl _⟩

theorem RollStep.trans {s t u : State} (h : RollStep s t) (h' : RollStep t u) : RollStep s u := ⟨h.later.trans h'.later⟩

theorem RollStep.of_eq {s t : State} (h : t.roll = s.roll) : RollStep s t := ⟨by rw [h]; exact .refl _⟩

/-- Work that comes after a state with the same controller. -/
theorem RollStep.after_eq {s t u : State} (h : RollStep t u) (hroll : t.roll = s.roll) : RollStep s u :=
  (RollStep.of_eq hroll).trans h

/-- Work that is followed by a state with the same controller. -/
theorem RollStep.and_eq {s t u : State} (h : RollStep s t) (hroll : u.roll = t.roll) : RollStep s u :=
  h.trans (.of_eq hroll)

section

variable (s : State)

theorem raiseNotice_later (n : Notice) : RollStep s (raiseNotice n s) := by
  obtain h | ⟨t, rfl, h | ⟨-, h⟩⟩ := raiseNotice_cases n s
  · rw [h]
    exact .refl s
  · rw [h]
    exact .of_eq rfl
  · rw [h]
    obtain ⟨x, hx⟩ := enterHalted_roll (withPendingNotice n s)
    refine RollStep.after_eq (t := withPendingNotice n s) ⟨?_⟩ rfl
    exact hx ▸ (haltedRoll_later _).trans .of_span

theorem raiseAll_later (ns : List Notice) : RollStep s (raiseAll ns s) := by
  induction ns generalizing s with
  | nil => exact .refl s
  | cons n ns ih => exact (raiseNotice_later s n).trans (ih _)

theorem raiseWhen_later (c : Bool) (n : Notice) : RollStep s (raiseWhen c n s) := by
  unfold raiseWhen
  split
  · exact raiseNotice_later s n
  · exact .refl s

theorem raiseWhileRunning_later (ns : List Notice) : RollStep s (raiseWhileRunning ns s) := by
  induction ns generalizing s with
  | nil => exact .refl s
  | cons n ns ih =>
    rw [raiseWhileRunning]
    split
    · exact (raiseNotice_later s n).trans (ih _)
    · exact .refl s

/-! ### The sequencer -/

theorem openSplice_later (ts : Timestamp) : RollStep s (openSplice ts s) := by
  unfold openSplice
  dsimp only
  generalize hopened : resetRatio (allocate s { openedRecord s .splice with newLotTag := newRollTag s.roll }) = t
  have hroll : t.roll = s.roll := by
    rw [← hopened]
    simp
  refine RollStep.after_eq ?_ hroll
  split
  · next h => exact ⟨enterMatching_later ts h⟩
  · exact .refl t

theorem openOutcome_later (ts : Timestamp) (o : DecisionOutcome) : RollStep s (openOutcome ts o s).1 := by
  cases o with
  | panel => exact .of_eq (by simp [openOutcome])
  | splice => exact openSplice_later s ts
  | gap reason => exact .of_eq (by simp [openOutcome])

theorem decideAfterClosing_later (ts : Timestamp) : RollStep s (decideAfterClosing ts s).1 :=
  (openOutcome_later (panelDecision s).1 ts (panelDecision s).2.1).after_eq (by simp)

theorem applyToGap_later (ts : Timestamp) (o : DecisionOutcome) : RollStep s (applyToGap ts o s).1 := by
  unfold applyToGap
  split
  · exact .of_eq (by simp)
  · exact (openOutcome_later (closeFlat s) ts o).after_eq (by simp)

theorem settleGap_later (ts : Timestamp) (o : DecisionOutcome) : RollStep s (settleGap ts o s) :=
  (applyToGap_later s ts o).trans (raiseAll_later _ _)

theorem decideForGap_later (ts : Timestamp) : RollStep s (decideForGap ts s) := by
  have hraised : RollStep s (raiseWhileRunning (panelDecision s).2.2 (panelDecision s).1) :=
    (raiseWhileRunning_later (panelDecision s).1 (panelDecision s).2.2).after_eq (by simp)
  unfold decideForGap
  dsimp only
  split
  · exact hraised.trans (settleGap_later _ ts _)
  · exact hraised

theorem closeAgainstJoint_later (i : Fin 64) : RollStep s (closeAgainstJoint s i) := by
  obtain ⟨x, hx⟩ := closeAgainstJoint_roll s i
  exact ⟨hx ▸ .of_span⟩

theorem closePanel_later (i : Fin 64) : RollStep s (closePanel i s).1 := by
  have hclosed : ∀ f, RollStep s (noOpenRecord (closeAgainstJoint (dropContext (updateRecord s i f)) i)) := fun f =>
    ((closeAgainstJoint_later (dropContext (updateRecord s i f)) i).after_eq (by simp)).and_eq rfl
  unfold closePanel
  dsimp only
  split
  · exact (hclosed _).and_eq rfl
  · exact hclosed _

theorem sequencerOutcome_later (ts : Timestamp) : RollStep s (sequencerOutcome ts s).1 := by
  unfold sequencerOutcome
  split
  · exact .refl s
  · split
    · exact .refl s
    · unfold sequencerOn
      dsimp only
      split
      · split
        · exact (closePanel_later s _).trans (decideAfterClosing_later _ ts)
        · exact .refl s
      · split
        · exact decideForGap_later s ts
        · exact .refl s
      · split
        · exact (decideAfterClosing_later (closeFlat s) ts).after_eq (by simp)
        · exact .refl s
      · exact .refl s

theorem sequencerWork_later (ts : Timestamp) : RollStep s (sequencerWork ts s) :=
  (sequencerOutcome_later s ts).trans (raiseAll_later _ _)

/-! ### The line, the governor and the take-off -/

theorem accountAll_later (interval : Nat) (l : List (Fin 64)) : RollStep s (accountAll interval l s) := by
  induction l generalizing s with
  | nil => exact .refl s
  | cons i l ih =>
    have hrecord : RollStep s (accountRecord interval i s) := by
      unfold accountRecord
      dsimp only
      split
      · exact (raiseWhen_later _ _ _).after_eq rfl
      · exact .refl s
    exact hrecord.trans (ih _)

theorem tunnelAccounting_later (interval : Nat) : RollStep s (tunnelAccounting interval s) := by
  unfold tunnelAccounting
  split
  · exact .refl s
  · exact accountAll_later s _ _

theorem compose_later : RollStep s (compose s) := by
  unfold compose
  split
  · exact (raiseAll_later _ _).after_eq rfl
  · exact .of_eq rfl

theorem rampStep_later : RollStep s (rampStep s) := by
  obtain ⟨x, hx⟩ := settleHalted_roll (s.withGov { s.gov with command := ramped s.gov })
  have hspan : (rampStep s).roll = { s.roll with span := x } := hx
  exact ⟨hspan ▸ .of_span⟩

theorem infeedStep_later (ratio : Nat) : RollStep s (infeedStep ratio s) := (raiseWhen_later _ _ _).after_eq rfl

/-- The controller from the panel decision on to where the governor forms the infeed speed. -/
theorem beforeInfeed_later (interval : Nat) :
    RollStep s (rampStep (compose (drainTests (tunnelAccounting interval s)))) :=
  ((tunnelAccounting_later s interval).and_eq (drainTests_frame _).2.2.2.2.2.2.2.2.1).trans
    ((compose_later _).trans (rampStep_later _))

theorem governorStep_later (ratio : Nat) (splice : SpliceState) : RollStep s (governorStep ratio splice s) :=
  (((compose_later s).trans (rampStep_later _)).trans (infeedStep_later _ ratio)).and_eq rfl

theorem enterStopped_later : RollStep s (enterStopped s) := by
  have hsettled : ∀ g, RollStep s (((closeFlat s).withGov g).withRoll (settleSplice ((closeFlat s).withGov g).roll)) :=
    fun g => by
      have hflat : (closeFlat s).roll = s.roll := by simp
      exact ⟨hflat ▸ settleSplice_later _⟩
  exact (hsettled _).trans (raiseNotice_later _ _)

theorem stopTest_later : RollStep s (stopTest s) := by
  unfold stopTest
  split
  · exact enterStopped_later s
  · exact .refl s

theorem dwellChecks_later (i : Fin 64) : RollStep s (dwellChecks i s) := by
  unfold dwellChecks
  dsimp only
  split
  · split
    · refine RollStep.trans ?_ (raiseWhen_later _ _ _)
      exact (raiseWhen_later _ _ _).after_eq rfl
    · exact .refl s
  · exact .refl s

theorem exitMoves_later (ts : Timestamp) (n : Nat) : RollStep s (exitMoves ts n s) := by
  induction n generalizing s with
  | zero => exact .refl s
  | succ n ih =>
    rw [exitMoves]
    split
    · exact .refl s
    · split
      · next i rest _ _ =>
        have hleft : RollStep (stampRecord ts i s) (leaveTunnel i rest (stampRecord ts i s)) :=
          (dwellChecks_later _ i).and_eq rfl
        exact (hleft.after_eq (by simp)).trans (ih _)
      · exact .refl s

theorem exitWork_later (ts : Timestamp) : RollStep s (exitWork ts s) := by
  unfold exitWork
  split
  · exact .refl s
  · exact exitMoves_later s ts _

theorem cuts_later (n : Nat) : RollStep s (cuts n s) := by
  induction n generalizing s with
  | zero => exact .refl s
  | succ n ih =>
    rw [cuts]
    split
    · exact .refl s
    · split
      · refine RollStep.trans ?_ (ih _)
        exact (raiseAll_later _ _).after_eq rfl
      · exact .refl s

theorem takeOffWork_later : RollStep s (takeOffWork s) := by
  have hformed : ∀ t : State, (formCutEntry t).roll = t.roll := fun t => by simp
  unfold takeOffWork
  refine RollStep.and_eq ?_ (hformed _)
  split
  · exact .refl s
  · exact cuts_later s _

end

/-! ### The speeds after the governor's step -/

/-- What later work of an arrival leaves of the governor: the derived speeds and the count of the trim at its limit. -/
structure SpeedsStand (s t : State) : Prop where
  vIn : t.gov.vIn = s.gov.vIn
  spindleA : t.gov.spindleA = s.gov.spindleA
  spindleB : t.gov.spindleB = s.gov.spindleB
  trimCount : t.gov.trimCount = s.gov.trimCount

theorem SpeedsStand.trans {s t u : State} (h : SpeedsStand s t) (h' : SpeedsStand t u) : SpeedsStand s u :=
  ⟨h'.vIn.trans h.vIn, h'.spindleA.trans h.spindleA, h'.spindleB.trans h.spindleB, h'.trimCount.trans h.trimCount⟩

theorem SpeedsStand.of_eq {s t : State} (h : t.gov = s.gov) : SpeedsStand s t := by
  constructor <;> rw [h]

theorem HaltStep.speeds {s t : State} (h : HaltStep s t) : SpeedsStand s t := by
  cases h with
  | keeps hgov => exact .of_eq hgov
  | halts _ hgov => constructor <;> rw [hgov] <;> rfl

theorem stopTest_speeds (s : State) : SpeedsStand s (stopTest s) := by
  unfold stopTest
  split
  · refine SpeedsStand.trans ?_ (raiseNotice_haltStep _ _).speeds
    constructor <;> simp
  · exact .of_eq rfl

theorem exitMoves_speeds (ts : Timestamp) (n : Nat) (s : State) : SpeedsStand s (exitMoves ts n s) := by
  induction n generalizing s with
  | zero => exact .of_eq rfl
  | succ n ih =>
    rw [exitMoves]
    split
    · exact .of_eq rfl
    · split
      · next i rest _ _ =>
        have hdwell : SpeedsStand (stampRecord ts i s) (dwellChecks i (stampRecord ts i s)) := by
          unfold dwellChecks
          dsimp only
          split
          · split
            · refine SpeedsStand.trans ?_
                ((raiseWhen_haltStep _ _ _).speeds.trans (raiseWhen_haltStep _ _ _).speeds)
              exact .of_eq rfl
            · exact .of_eq rfl
          · exact .of_eq rfl
        have hstamp : SpeedsStand s (stampRecord ts i s) := .of_eq (by simp)
        refine (hstamp.trans hdwell).trans (SpeedsStand.trans ?_ (ih _))
        exact .of_eq rfl
      · exact .of_eq rfl

theorem exitWork_speeds (ts : Timestamp) (s : State) : SpeedsStand s (exitWork ts s) := by
  unfold exitWork
  split
  · exact .of_eq rfl
  · exact exitMoves_speeds ts _ s

theorem cuts_speeds (n : Nat) (s : State) : SpeedsStand s (cuts n s) := by
  induction n generalizing s with
  | zero => exact .of_eq rfl
  | succ n ih =>
    rw [cuts]
    split
    · exact .of_eq rfl
    · split
      · next i rest _ _ =>
        have hcut : SpeedsStand s (cutHead i rest s) := by
          rw [cutHead_eq]
          refine SpeedsStand.trans ?_ (raiseAll_haltStep _ _).speeds
          exact .of_eq rfl
        exact hcut.trans (ih _)
      · exact .of_eq rfl

theorem takeOffWork_speeds (s : State) : SpeedsStand s (takeOffWork s) := by
  have hformed : ∀ t, SpeedsStand t (formCutEntry t) := fun t => .of_eq (by simp)
  unfold takeOffWork
  refine SpeedsStand.trans ?_ (hformed _)
  split
  · exact .of_eq rfl
  · exact cuts_speeds _ s

/-! ### An ACTIVE arrival as a whole -/

/-- The state that the governor's step of an ACTIVE arrival leaves. -/
def governed (interval : Nat) (ts : Timestamp) (s : State) : State :=
  governorStep (passedRatio s) (decidedSplice ts s) (drainTests (tunnelAccounting interval (webWork ts s)))

theorem activeWork_speeds (interval : Nat) (ts : Timestamp) (s : State) :
    SpeedsStand (governed interval ts s) (activeWork interval ts s) := by
  have hstamped : SpeedsStand (stopTest (governed interval ts s)) (transitWork ts (stopTest (governed interval ts s))) :=
    .of_eq (by simp)
  exact ((stopTest_speeds _).trans hstamped).trans ((exitWork_speeds ts _).trans (takeOffWork_speeds _))

/-- The controller from the end of its own work on. -/
theorem activeWork_later (interval : Nat) (ts : Timestamp) (s : State) :
    RollStep (beforeDecision ts s) (activeWork interval ts s) := by
  have hweb : RollStep (beforeDecision ts s) (webWork ts s) := sequencerWork_later _ ts
  have hdrained : ∀ t, (drainTests t).roll = t.roll := fun t => by simp
  have hgoverned : RollStep (webWork ts s) (governed interval ts s) :=
    ((tunnelAccounting_later _ interval).and_eq (hdrained _)).trans (governorStep_later _ _ _)
  have hstamped : ∀ t, (transitWork ts t).roll = t.roll := fun t => by simp
  have hline := (hweb.trans hgoverned).trans ((stopTest_later _).and_eq (hstamped _))
  exact hline.trans ((exitWork_later _ ts).trans (takeOffWork_later _))

/-- The arrival of an ACTIVE port without a request (R8). -/
theorem arrival_active {rx : Reception} {s : State} (h : s.port.state = .active) : arrival rx.frame (takeIn rx s) =
    activeWork (frameInterval s.port rx.frame) rx.frame.timestamp (sampled rx s) := by
  have hstate : (sampled rx s).port.state = .active := by
    have hport : (sampled rx s).port = (countArrival (examineGood rx.frame (takeIn rx s))).port := by simp [sampled]
    rw [hport, countArrival, State.withPort_port, examineGood_port]
    exact h
  rw [arrival, arrivalWork]
  exact if_pos hstate

/-- What an ACTIVE arrival answers, up to the frame that goes on. -/
theorem exec_activeArrival {rx : Reception} {s : State} (h : ActiveArrival rx s) :
    ∃ d, receive rx s = (activeWork (frameInterval s.port rx.frame) rx.frame.timestamp (sampled rx s)).withDownstream (some d) := by
  obtain ⟨htime, hactive, hgood, hno⟩ := h
  rw [← arrival_active hactive]
  exact ⟨_, receive_arrival htime (.inr hactive) hgood hno⟩

end Sys2Proof.Proofs

/-! The target, the ramp and the derived speeds (O35). -/

namespace Sys2Proof.Proofs

open Machine Statements Safety

/-! ### The SET section (R143) -/

theorem mem_setZones {t : Tunnel} {f : ZoneFit} :
    f ∈ setZones t ↔ ∃ z : Fin 6, t.zones[z].fit = some f ∧ f.role = .set := by
  have hzone : ∀ x : Zone, (match x.fit with
      | some f => if f.role = .set then some f else none
      | none => none) = some f ↔ x.fit = some f ∧ f.role = .set := fun x => by
    cases x.fit with
    | none => simp
    | some g =>
      by_cases hg : g.role = .set
      · simp only [hg, if_true, Option.some.injEq]
        exact ⟨fun h => ⟨h, h ▸ hg⟩, fun h => h.1⟩
      · simp only [hg, if_false, Option.some.injEq, reduceCtorEq, false_iff, not_and]
        exact fun h => h ▸ hg
  rw [setZones, List.mem_filterMap]
  constructor
  · rintro ⟨x, hx, hf⟩
    obtain ⟨k, hk, rfl⟩ := List.getElem_of_mem hx
    exact ⟨⟨k, by simpa using hk⟩, (hzone _).mp hf⟩
  · rintro ⟨z, hz⟩
    exact ⟨t.zones[z], by simp, (hzone _).mpr hz⟩

theorem foldl_max_greatest (x : Nat) (l : List Nat) : l.foldl max x ∈ x :: l ∧ ∀ y ∈ x :: l, y ≤ l.foldl max x :=
  List.max?_eq_some_iff.mp List.max?_cons'

theorem foldl_min_least (x : Nat) (l : List Nat) : l.foldl min x ∈ x :: l ∧ ∀ y ∈ x :: l, l.foldl min x ≤ y :=
  List.min?_eq_some_iff.mp List.min?_cons'

theorem setSpan_unique {t : Tunnel} {a b a' b' : Nat} (h : SetSpan t a b) (h' : SetSpan t a' b') : a = a' ∧ b = b' := by
  obtain ⟨⟨z, f, hf, hset, hstart⟩, ⟨y, g, hg, hset', hend⟩, hall⟩ := h
  obtain ⟨⟨z', f', hf', hset₁, hstart'⟩, ⟨y', g', hg', hset₂, hend'⟩, hall'⟩ := h'
  have hlow := (hall z' f' hf' hset₁).1
  have hlow' := (hall' z f hf hset).1
  have hhigh := (hall y' g' hg' hset₂).2
  have hhigh' := (hall' y g hg hset').2
  omega

/-- The section that `setSection` gives runs from the least span start to the greatest span end. -/
theorem setSection_spans {t : Tunnel} {x : Nat × Nat} (h : setSection t = some x) : SetSpan t x.1 x.2 := by
  unfold setSection at h
  split at h
  · cases h
  · next f rest hzones =>
    have hstart : rest.foldl (fun a g => min a g.spanStart) f.spanStart = (rest.map ZoneFit.spanStart).foldl min f.spanStart :=
      List.foldl_map.symm
    have hend : rest.foldl (fun a g => max a g.spanEnd) f.spanEnd = (rest.map ZoneFit.spanEnd).foldl max f.spanEnd :=
      List.foldl_map.symm
    obtain rfl := Option.some.inj h
    rw [hstart, hend]
    obtain ⟨hmin, hleast⟩ := foldl_min_least f.spanStart (rest.map ZoneFit.spanStart)
    obtain ⟨hmax, hgreatest⟩ := foldl_max_greatest f.spanEnd (rest.map ZoneFit.spanEnd)
    rw [← List.map_cons, ← hzones] at hmin hleast hmax hgreatest
    obtain ⟨g, hg, hgstart⟩ := List.mem_map.mp hmin
    obtain ⟨k, hk, hkend⟩ := List.mem_map.mp hmax
    obtain ⟨z, hz, hset⟩ := mem_setZones.mp hg
    obtain ⟨y, hy, hset'⟩ := mem_setZones.mp hk
    refine ⟨⟨z, g, hz, hset, hgstart⟩, ⟨y, k, hy, hset', hkend⟩, fun w e he hrole => ?_⟩
    have hmem := mem_setZones.mpr ⟨w, he, hrole⟩
    exact ⟨hleast _ (List.mem_map_of_mem hmem), hgreatest _ (List.mem_map_of_mem hmem)⟩

theorem setSection_iff {t : Tunnel} {a b : Nat} : setSection t = some (a, b) ↔ SetSpan t a b := by
  refine ⟨fun h => setSection_spans h, fun h => ?_⟩
  cases hsect : setSection t with
  | none =>
    obtain ⟨⟨z, f, hf, hset, -⟩, -⟩ := h
    have hmem := mem_setZones.mpr ⟨z, hf, hset⟩
    unfold setSection at hsect
    split at hsect
    · next hempty =>
      rw [hempty] at hmem
      cases hmem
    · cases hsect
  | some x =>
    obtain ⟨ha, hb⟩ := setSpan_unique h (setSection_spans hsect)
    rw [ha, hb]

/-! ### The patterns that limit the speed (R82, R132, R133) -/

theorem upcomingPattern_iff {s : State} {p : Pattern} : upcomingPattern s = some p ↔ IsNextPattern s p := by
  rw [upcomingPattern, Option.bind_eq_some_iff, IsNextPattern, nextPattern]
  cases hlive : liveRun s.seq with
  | some r =>
    obtain ⟨c, hc, hremaining, rfl⟩ := liveRun_eq_some.mp hlive
    simp only [Option.some.injEq, exists_eq_left']
    constructor
    · exact fun h => .inl ⟨c, hc, hremaining, h⟩
    · rintro (⟨c', hc', -, h⟩ | ⟨hnone, -⟩)
      · obtain rfl := Option.some.inj (hc.symm.trans hc')
        exact h
      · have := hnone c hc
        omega
  | none =>
    have hnone := liveRun_eq_none.mp hlive
    simp only [Option.map_eq_some_iff]
    constructor
    · rintro ⟨k, ⟨r, hr, rfl⟩, h⟩
      exact .inr ⟨hnone, r, hr, h⟩
    · rintro (⟨c, hc, hremaining, -⟩ | ⟨-, r, hr, h⟩)
      · have := hnone c hc
        omega
      · exact ⟨r.pattern, ⟨r, hr, rfl⟩, h⟩

theorem panelOpen_iff {s : State} {i : Fin 64} (h : s.seq.openRecord = some i) :
    panelOpen s = true ↔ s.track.records[i].kind = some .panel := by
  rw [panelOpen, openKind, h, decide_eq_true_eq]
  rfl

theorem openPattern_iff {s : State} {p : Pattern} : openPattern s = some p ↔ IsOpenPattern s p := by
  rw [openPattern, IsOpenPattern]
  cases hopen : s.seq.openRecord with
  | none => simp
  | some i =>
    dsimp only
    constructor
    · intro h
      split at h
      · next hpanel =>
        obtain ⟨k, hk, hplace⟩ := Option.bind_eq_some_iff.mp h
        exact ⟨i, k, rfl, (panelOpen_iff hopen).mp hpanel, hk, hplace⟩
      · cases h
    · rintro ⟨j, k, hj, hkind, hk, hplace⟩
      obtain rfl := Option.some.inj hj
      rw [if_pos ((panelOpen_iff hopen).mpr hkind)]
      exact Option.bind_eq_some_iff.mpr ⟨k, hk, hplace⟩

theorem considered_iff {s : State} {b : Nat} {p : Pattern} :
    p ∈ travellingPatterns s b ++ (upcomingPattern s).toList ↔ Considered s b p := by
  have hrecord : ∀ i : Fin 64, (if (recordAt s i).kind = some .panel ∧ edgeReached (trailEdge (belt s) (recordAt s i)) b = false
      then (recordAt s i).pattern.bind (patternAt s) else none) = some p ↔
      ∃ k : Fin 48, s.track.records[i].kind = some .panel ∧ s.track.records[i].pattern = some k ∧ s.store.places[k] = some p
        ∧ ¬EdgeAt (trailAt s s.track.records[i]) b := fun i => by
    have hshort : edgeReached (trailEdge (belt s) (recordAt s i)) b = false ↔ ¬EdgeAt (trailAt s s.track.records[i]) b :=
      Bool.eq_false_iff.trans (not_congr (edgeReached_iff _ b))
    constructor
    · intro h
      split at h
      · next hpanel =>
        obtain ⟨k, hk, hplace⟩ := Option.bind_eq_some_iff.mp h
        exact ⟨k, hpanel.1, hk, hplace, hshort.mp hpanel.2⟩
      · cases h
    · rintro ⟨k, hkind, hk, hplace, hedge⟩
      exact (if_pos ⟨hkind, hshort.mpr hedge⟩).trans (Option.bind_eq_some_iff.mpr ⟨k, hk, hplace⟩)
  rw [List.mem_append, Option.mem_toList, upcomingPattern_iff, Considered, or_comm]
  exact or_congr_right (List.mem_filterMap.trans (exists_congr fun i => and_congr_right' (hrecord i)))

theorem dwellLimit_eq {t : Tunnel} {x : Nat × Nat} (h : setSection t = some x) (n : Nat) :
    dwellLimit t n = some ((x.2 - x.1) * 10 / n) := by rw [dwellLimit, h]

/-- The dwell limit in force is the one that R132 names. -/
theorem dwellLimitInForce_iff {s : State} {v : Nat} : dwellLimitInForce s = some v ↔ IsDwellLimit s v := by
  unfold dwellLimitInForce
  split
  · next hnone =>
    simp only [reduceCtorEq, false_iff]
    rintro ⟨a, b, p, hspan, -⟩
    rw [setSection_iff.mpr hspan] at hnone
    cases hnone
  · next x hsect =>
    have hconsidered : ∀ p, p ∈ travellingPatterns s x.2 ++ (upcomingPattern s).toList ↔ Considered s x.2 p :=
      fun p => considered_iff
    generalize travellingPatterns s x.2 ++ (upcomingPattern s).toList = patterns at *
    have hspan := setSection_spans hsect
    split
    · next hempty =>
      simp only [reduceCtorEq, false_iff]
      rintro ⟨a, b, p, hspan', hp, -⟩
      obtain ⟨rfl, rfl⟩ := setSpan_unique hspan' hspan
      rw [← hconsidered, List.map_eq_nil_iff.mp hempty] at hp
      cases hp
    · next n rest hdwells =>
      rw [dwellLimit_eq hsect]
      obtain ⟨hmax, hgreatest⟩ := foldl_max_greatest n rest
      rw [← hdwells] at hmax hgreatest
      obtain ⟨p, hp, hdwell⟩ := List.mem_map.mp hmax
      have hlongest : ∀ q, Considered s x.2 q → q.minDwell ≤ rest.foldl max n := fun q hq =>
        hgreatest _ (List.mem_map_of_mem ((hconsidered q).mpr hq))
      constructor
      · intro h
        refine ⟨x.1, x.2, p, hspan, (hconsidered p).mp hp, fun q hq => hdwell ▸ hlongest q hq, ?_⟩
        rw [hdwell]
        exact (Option.some.inj h).symm
      · rintro ⟨a, b, q, hspan', hq, hall, rfl⟩
        obtain ⟨rfl, rfl⟩ := setSpan_unique hspan' hspan
        have hsame : q.minDwell = rest.foldl max n :=
          Nat.le_antisymm (hlongest q hq) (hdwell ▸ hall p ((hconsidered p).mp hp))
        rw [hsame]

/-- With patterns to limit the feed, their greatest maximum ratio does (R133). -/
theorem greatestRatio_iff {P : Pattern → Prop} {m r : Nat} (hmem : ∃ p, P p ∧ p.totals.maxRatio = m)
    (hall : ∀ p, P p → p.totals.maxRatio ≤ m) : ((r = 4096 ∧ ∀ p, ¬P p)
      ∨ ((∃ p, P p ∧ p.totals.maxRatio = r) ∧ ∀ p, P p → p.totals.maxRatio ≤ r)) ↔ r = m := by
  obtain ⟨p, hp, rfl⟩ := hmem
  constructor
  · rintro (⟨-, hnone⟩ | ⟨⟨q, hq, rfl⟩, hall'⟩)
    · exact absurd hp (hnone p)
    · exact Nat.le_antisymm (hall q hq) (hall' p hp)
  · rintro rfl
    exact .inr ⟨⟨p, hp, rfl⟩, hall⟩

theorem steepestRatio_iff {s : State} {r : Nat} : ((r = 4096 ∧ ∀ p, ¬(IsOpenPattern s p ∨ IsNextPattern s p))
    ∨ ((∃ p, (IsOpenPattern s p ∨ IsNextPattern s p) ∧ p.totals.maxRatio = r)
      ∧ ∀ p, (IsOpenPattern s p ∨ IsNextPattern s p) → p.totals.maxRatio ≤ r)) ↔ r = steepestRatio s := by
  simp only [← openPattern_iff, ← upcomingPattern_iff]
  unfold steepestRatio
  cases openPattern s with
  | none =>
    cases upcomingPattern s with
    | none => simp
    | some b => exact greatestRatio_iff ⟨b, .inr rfl, rfl⟩ (by simp)
  | some a =>
    cases upcomingPattern s with
    | none => exact greatestRatio_iff ⟨a, .inl rfl, rfl⟩ (by simp)
    | some b =>
      refine greatestRatio_iff ?_ fun p hp => ?_
      swap
      · obtain hp | hp := hp
        · exact (congrArg (fun q : Pattern => q.totals.maxRatio) (Option.some.inj hp)).ge.trans (Nat.le_max_left _ _)
        · exact (congrArg (fun q : Pattern => q.totals.maxRatio) (Option.some.inj hp)).ge.trans (Nat.le_max_right _ _)
      obtain h | h := max_choice a.totals.maxRatio b.totals.maxRatio
      · exact ⟨a, .inl rfl, h.symm⟩
      · exact ⟨b, .inr rfl, h.symm⟩

/-- The feed limit is the one that R133 names. -/
theorem feedLimit_iff {s : State} {v : Nat} : IsFeedLimit s v ↔ v = feedLimit s := by
  have hratio : ∀ r, _ ↔ r = steepestRatio s := fun r => steepestRatio_iff
  simp only [not_or] at hratio
  unfold IsFeedLimit
  constructor
  · rintro ⟨r, rfl, h⟩
    rw [(hratio r).mp h]
    rfl
  · rintro rfl
    exact ⟨steepestRatio s, rfl, (hratio _).mpr rfl⟩

/-! ### The least limit in force (R131) -/

/-- The limits in force in table order (section 7.3). -/
def tableOfLimits (s : State) : List (TargetSource × Nat) := (.set, s.gov.vSet) :: otherLimits s

theorem limitInForce_iff {s : State} {x : TargetSource} {v : Nat} : LimitInForce s x v ↔ (x, v) ∈ tableOfLimits s := by
  have hsplice : spliceUnderWay s.roll.splice = true ↔
      s.roll.splice = .matching ∨ s.roll.splice = .paste ∨ s.roll.splice = .clear := by
    simp [spliceUnderWay, or_assoc]
  have hdwell : (x, v) ∈ ((dwellLimitInForce s).map fun v => (TargetSource.dwell, v)).toList ↔
      x = .dwell ∧ IsDwellLimit s v := by
    rw [← dwellLimitInForce_iff]
    cases dwellLimitInForce s <;> simp [eq_comm]
  have hunder : (x, v) ∈ (if spliceUnderWay s.roll.splice then [(TargetSource.splice, s.gov.settings.spliceLimit)] else []) ↔
      x = .splice ∧ v = s.gov.settings.spliceLimit ∧ spliceUnderWay s.roll.splice = true := by
    split <;> simp_all
  have hdegrade : (x, v) ∈ (if degradePending s.notices then [(TargetSource.degrade, s.gov.settings.degradeLimit)] else []) ↔
      x = .degrade ∧ v = s.gov.settings.degradeLimit ∧ degradePending s.notices = true := by
    split <;> simp_all
  rw [LimitInForce, tableOfLimits, otherLimits, List.mem_cons, List.mem_append, List.mem_append, List.mem_append, hdwell,
    hunder, hdegrade, List.mem_singleton, Prod.mk.injEq, Prod.mk.injEq, feedLimit_iff, ← hsplice]
  simp only [or_assoc]

theorem tableOfLimits_sorted (s : State) :
    (tableOfLimits s).Pairwise fun x y => placeInTable x.1 < placeInTable y.1 := by
  unfold tableOfLimits otherLimits
  cases dwellLimitInForce s <;> cases spliceUnderWay s.roll.splice <;> cases degradePending s.notices <;>
    simp [placeInTable]

/-- The first of the least limits of a list in table order. -/
theorem leastLimit_least {best : TargetSource × Nat} {l : List (TargetSource × Nat)}
    (h : (best :: l).Pairwise fun x y => placeInTable x.1 < placeInTable y.1) :
    leastLimit best l ∈ best :: l ∧ ∀ x ∈ best :: l, (leastLimit best l).2 ≤ x.2
      ∧ (x.2 = (leastLimit best l).2 → placeInTable (leastLimit best l).1 ≤ placeInTable x.1) := by
  induction l generalizing best with
  | nil =>
    refine ⟨List.mem_cons_self, fun x hx => ?_⟩
    obtain rfl := List.mem_singleton.mp hx
    exact ⟨le_rfl, fun _ => le_rfl⟩
  | cons y l ih =>
    obtain ⟨hbest, hrest⟩ := List.pairwise_cons.mp h
    rw [leastLimit]
    by_cases hy : y.2 < best.2
    · rw [if_pos hy]
      obtain ⟨hmem, hleast⟩ := ih hrest
      refine ⟨List.mem_cons_of_mem _ hmem, fun x hx => ?_⟩
      obtain rfl | hx := List.mem_cons.mp hx
      · have hle := (hleast y List.mem_cons_self).1
        exact ⟨by omega, fun h => by omega⟩
      · exact hleast x hx
    · rw [if_neg hy]
      have hsorted : (best :: l).Pairwise fun x y => placeInTable x.1 < placeInTable y.1 :=
        h.sublist (List.Sublist.cons_cons best (List.sublist_cons_self y l))
      obtain ⟨hmem, hleast⟩ := ih hsorted
      refine ⟨?_, fun x hx => ?_⟩
      · obtain hm | hm := List.mem_cons.mp hmem
        · rw [hm]
          exact List.mem_cons_self
        · exact List.mem_cons_of_mem _ (List.mem_cons_of_mem _ hm)
      · obtain ⟨hle, hplace⟩ := hleast best List.mem_cons_self
        obtain rfl | hx := List.mem_cons.mp hx
        · exact ⟨hle, hplace⟩
        · obtain rfl | hx := List.mem_cons.mp hx
          · refine ⟨by omega, fun h => ?_⟩
            have hlt := hbest x List.mem_cons_self
            have := hplace (by omega)
            omega
          · exact hleast x (List.mem_cons_of_mem _ hx)

/-! ### The composition (R131, R134) -/

theorem composesLimits_iff (g : Governor) :
    composesLimits g = true ↔ g.line = .run ∨ (g.line = .stopping ∧ g.rampStarted = false) := by
  simp [composesLimits]

/-- The composition sets the target from the least limit, and its notices may halt the line. -/
theorem compose_step {s : State} (h : s.gov.line = .run ∨ (s.gov.line = .stopping ∧ s.gov.rampStarted = false)) :
    ∃ dwell feed : Bool, HaltStep (s.withGov { s.gov with
      target := (leastLimit (.set, s.gov.vSet) (otherLimits s)).2, source := (leastLimit (.set, s.gov.vSet) (otherLimits s)).1,
      dwellLimiting := dwell, feedLimiting := feed }) (compose s) := by
  rw [compose, if_pos ((composesLimits_iff _).mpr h)]
  exact ⟨_, _, raiseAll_haltStep _ _⟩

theorem compose_target {s t : State} (ht : t = compose s)
    (h : s.gov.line = .run ∨ (s.gov.line = .stopping ∧ s.gov.rampStarted = false)) :
    (t.gov.line = s.gov.line →
      (∀ x v, LimitInForce s x v → t.gov.target ≤ v) ∧ LimitInForce s t.gov.source t.gov.target
      ∧ ∀ x, LimitInForce s x t.gov.target → placeInTable t.gov.source ≤ placeInTable x)
    ∧ (t.gov.line ≠ s.gov.line → t.gov.line = .halted ∧ t.gov.target = 0) := by
  subst ht
  obtain ⟨dwell, feed, hstep⟩ := compose_step h
  cases hstep with
  | keeps hgov =>
    rw [hgov]
    refine ⟨fun _ => ?_, fun hline => absurd rfl hline⟩
    obtain ⟨hmem, hleast⟩ := leastLimit_least (tableOfLimits_sorted s)
    simp only [limitInForce_iff]
    exact ⟨fun x v hx => (hleast _ hx).1, hmem, fun x hx => (hleast _ hx).2 rfl⟩
  | halts hrun hgov =>
    rw [hgov]
    refine ⟨fun hline => ?_, fun _ => ⟨rfl, rfl⟩⟩
    have hhalted : s.gov.line = .halted := hline.symm
    rw [hhalted] at h
    simp at h

theorem compose_rests {s : State} (h : ¬(s.gov.line = .run ∨ (s.gov.line = .stopping ∧ s.gov.rampStarted = false))) :
    (compose s).gov.target = 0
      ∧ (compose s).gov.source = (if s.gov.line = .stopping then .stop else if s.gov.line = .halted then .halt else .none) := by
  have hsource : ∀ l : LineState, restSource l = (if l = .stopping then .stop else if l = .halted then .halt else .none) :=
    fun l => by cases l <;> rfl
  rw [compose, if_neg (mt (composesLimits_iff _).mp h), ← hsource]
  exact ⟨rfl, rfl⟩

/-! ### The ramp and the derived speeds (R135 to R137) -/

theorem rampStep_command (s : State) : (rampStep s).gov = { s.gov with command := ramped s.gov } := by
  rw [rampStep]
  simp

theorem ramped_up {g : Governor} (h : g.command ≤ g.target) (hmax : g.target ≤ g.settings.vMax) :
    ramped g = min (g.command + g.settings.aUp) g.target := by
  unfold ramped
  split
  · omega
  · have hsame : g.command = g.target := by omega
    split <;> omega

theorem ramped_down {g : Governor} (h : g.target ≤ g.command) :
    ramped g = max (g.command - (if g.line = .halted then g.settings.aHalt else g.settings.aDown)) g.target :=
  if_neg (Nat.not_lt.mpr h)

theorem infeedStep_vIn (ratio : Nat) (s : State) :
    (infeedStep ratio s).gov.vIn = infeedSpeed s.gov ratio (dancerTrim s.gov (quantity s 6)) := by
  unfold infeedStep
  exact (raiseWhen_haltStep _ _ _).speeds.vIn

theorem infeedSpeed_eq (g : Governor) (ratio : Nat) (trim : Int) : (infeedSpeed g ratio trim : Int) =
    max 0 (min (g.settings.vInMax : Int) ((((g.command * ratio + 2048) / 4096 : Nat) : Int) + trim)) := by
  rw [infeedSpeed, clampInt_eq _ _ _ (by omega)]
  omega

theorem dancerTrim_none {g : Governor} {q : Quantity} (h : q.lost = true ∨ g.command = 0) : dancerTrim g q = 0 := by
  have hany : (q.lost || decide (g.command = 0)) = true := by simpa using h
  rw [dancerTrim, if_pos hany]

theorem dancerTrim_eq {g : Governor} {q : Quantity} (hlost : q.lost = false) (hcommand : g.command ≠ 0) :
    dancerTrim g q = max (-(g.settings.trimLimit : Int)) (min (g.settings.trimLimit : Int)
      (((g.settings.kp : Int) * ((q.value.toNat : Int) - g.settings.dancerSet)).tdiv 16)) := by
  have hnone : (q.lost || decide (g.command = 0)) = false := by simp [hlost, hcommand]
  rw [dancerTrim, hnone, if_neg (by simp), clampInt_eq _ _ _ (by omega)]

theorem spindleSpeed_under (splice : SpliceState) (vIn : Nat) (x : Spindle) :
    SpeedUnder splice vIn x (spindleSpeed splice vIn x) := by
  unfold SpeedUnder spindleSpeed
  cases x.state <;> simp

theorem speedUnder_unique {splice : SpliceState} {vIn v : Nat} {x : Spindle} (h : SpeedUnder splice vIn x v) :
    v = spindleSpeed splice vIn x := Eq.trans h (spindleSpeed_under splice vIn x).symm

/-! ### The speeds of an ACTIVE arrival -/

theorem governorStep_speeds (ratio : Nat) (splice : SpliceState) (s : State) :
    (governorStep ratio splice s).gov = { (infeedStep ratio (rampStep (compose s))).gov with
      spindleA := spindleSpeed splice (infeedStep ratio (rampStep (compose s))).gov.vIn
        (infeedStep ratio (rampStep (compose s))).roll.spindleA,
      spindleB := spindleSpeed splice (infeedStep ratio (rampStep (compose s))).gov.vIn
        (infeedStep ratio (rampStep (compose s))).roll.spindleB } := rfl

/-- The governor's step of an arrival from where it forms the infeed speed. -/
theorem governed_eq (rx : Reception) (s : State) :
    (governed (frameInterval s.port rx.frame) rx.frame.timestamp (sampled rx s)).gov =
      { (infeedStep (passedRatio (sampled rx s)) (beforeInfeed rx s)).gov with
        spindleA := spindleSpeed (decidedSplice rx.frame.timestamp (sampled rx s))
          (infeedStep (passedRatio (sampled rx s)) (beforeInfeed rx s)).gov.vIn
          (infeedStep (passedRatio (sampled rx s)) (beforeInfeed rx s)).roll.spindleA,
        spindleB := spindleSpeed (decidedSplice rx.frame.timestamp (sampled rx s))
          (infeedStep (passedRatio (sampled rx s)) (beforeInfeed rx s)).gov.vIn
          (infeedStep (passedRatio (sampled rx s)) (beforeInfeed rx s)).roll.spindleB } := by
  rw [governed, governorStep_speeds, beforeInfeed]

theorem passedRatio_eq (s : State) : passedRatio s =
    if infeedLost s = true then s.folds.ratio else (passing s.folds.queue.length s).folds.ratio := by
  unfold passedRatio foldWork
  split <;> rfl

theorem infeedTakesThePassedRatio : InfeedTakesThePassedRatio := by
  intro rx s harrival y hy ratio hratio
  obtain ⟨d, hreceive⟩ := exec_activeArrival harrival
  refine ⟨receive rx s, rfl, ?_⟩
  rw [← passedRatio_eq] at hratio
  have hvIn := (activeWork_speeds (frameInterval s.port rx.frame) rx.frame.timestamp (sampled rx s)).vIn
  rw [hreceive, State.withDownstream_gov, hvIn, governed_eq, infeedStep_vIn, infeedSpeed_eq, hratio, hy]

theorem spindlesTakeTheDecidedState : SpindlesTakeTheDecidedState := by
  intro rx s harrival w hw
  obtain ⟨d, hreceive⟩ := exec_activeArrival harrival
  refine ⟨receive rx s, rfl, ?_⟩
  have hspeeds := activeWork_speeds (frameInterval s.port rx.frame) rx.frame.timestamp (sampled rx s)
  have hdecided : decidedSplice rx.frame.timestamp (sampled rx s) = w.roll.splice := by rw [hw, decidedSplice]
  have hlater : RollStep w (infeedStep (passedRatio (sampled rx s)) (beforeInfeed rx s)) := by
    have hweb : RollStep w (webWork rx.frame.timestamp (sampled rx s)) := by
      rw [hw]
      exact raiseAll_later _ _
    exact (hweb.trans (beforeInfeed_later _ _)).trans (infeedStep_later _ _)
  rw [hreceive, State.withDownstream_gov, hspeeds.vIn, hspeeds.spindleA, hspeeds.spindleB, governed_eq, hdecided]
  generalize infeedStep (passedRatio (sampled rx s)) (beforeInfeed rx s) = y at hlater ⊢
  rw [← hlater.later.spindleA, ← hlater.later.spindleB]
  exact ⟨spindleSpeed_under _ _ _, spindleSpeed_under _ _ _⟩

/-- Settles O35: the target, the ramp, the infeed speed and the spindle speeds. -/
theorem speedsFollowTheLimits : Obligations.SpeedsFollowTheLimits := by
  refine ⟨infeedTakesThePassedRatio, spindlesTakeTheDecidedState, fun s t ht h => compose_target ht h,
    fun s h => compose_rests h, fun s _ c hc => ?_, fun ratio s q hq h => ?_, fun ratio s q trim hq hlost hcommand htrim => ?_,
    fun splice s speed hspeed => ?_⟩
  · rw [hc, rampStep_command]
    exact ⟨ramped_up, ramped_down⟩
  · subst hq
    have hspeed := infeedSpeed_eq s.gov ratio 0
    rw [infeedStep_vIn, dancerTrim_none h]
    omega
  · subst hq
    rw [infeedStep_vIn, infeedSpeed_eq, dancerTrim_eq hlost hcommand, htrim]
  · rw [speedUnder_unique (hspeed s.roll.spindleA), speedUnder_unique (hspeed s.roll.spindleB)]
    rfl

end Sys2Proof.Proofs

/-! The events of an ACTIVE arrival (O60). -/

namespace Sys2Proof.Proofs

open Machine Statements Safety

/-! ### What the work before a phase ends or the trim is formed leaves -/

/-- The count of the trim at its limit stands. -/
structure TrimKept (s t : State) : Prop where
  count : t.gov.trimCount = s.gov.trimCount

theorem TrimKept.of_eq {s t : State} (h : t.gov = s.gov) : TrimKept s t := ⟨by rw [h]⟩

theorem TrimKept.trans {s t u : State} (h : TrimKept s t) (h' : TrimKept t u) : TrimKept s u := ⟨h'.count.trans h.count⟩

theorem TrimKept.after_eq {s t u : State} (h : TrimKept t u) (hgov : t.gov = s.gov) : TrimKept s u :=
  (TrimKept.of_eq hgov).trans h

theorem TrimKept.and_eq {s t u : State} (h : TrimKept s t) (hgov : u.gov = t.gov) : TrimKept s u := h.trans (.of_eq hgov)

theorem HaltStep.trim {s t : State} (h : HaltStep s t) : TrimKept s t := ⟨h.speeds.trimCount⟩

/-- The attempts stand, and a paste goes on with its phase. -/
structure PhaseKept (s t : State) : Prop where
  attempts : t.roll.attempts = s.roll.attempts
  pasting : s.roll.splice = .paste → t.roll.splice = .paste ∧ t.roll.phase = s.roll.phase

theorem PhaseKept.of_eq {s t : State} (h : t.roll = s.roll) : PhaseKept s t := ⟨by rw [h], fun hp => by rw [h]; exact ⟨hp, rfl⟩⟩

theorem PhaseKept.trans {s t u : State} (h : PhaseKept s t) (h' : PhaseKept t u) : PhaseKept s u :=
  ⟨h'.attempts.trans h.attempts, fun hp =>
    ⟨(h'.pasting (h.pasting hp).1).1, (h'.pasting (h.pasting hp).1).2.trans (h.pasting hp).2⟩⟩

theorem RollStep.phase {s t : State} (h : RollStep s t) : PhaseKept s t :=
  ⟨h.later.attempts, fun hp => by rw [h.later.stands (.inl hp)]; exact ⟨hp, rfl⟩⟩

/-- Work of an arrival up to the roll change controller's phases: it leaves the trim count, the attempts and a paste. -/
structure EarlyWork (s t : State) : Prop where
  trim : TrimKept s t
  phase : PhaseKept s t

theorem EarlyWork.of_eq {s t : State} (hgov : t.gov = s.gov) (hroll : t.roll = s.roll) : EarlyWork s t :=
  ⟨.of_eq hgov, .of_eq hroll⟩

theorem EarlyWork.trans {s t u : State} (h : EarlyWork s t) (h' : EarlyWork t u) : EarlyWork s u :=
  ⟨h.trim.trans h'.trim, h.phase.trans h'.phase⟩

theorem EarlyWork.after_eq {s t u : State} (h : EarlyWork t u) (hgov : t.gov = s.gov) (hroll : t.roll = s.roll) :
    EarlyWork s u := (EarlyWork.of_eq hgov hroll).trans h

theorem EarlyWork.and_eq {s t u : State} (h : EarlyWork s t) (hgov : u.gov = t.gov) (hroll : u.roll = t.roll) :
    EarlyWork s u := h.trans (.of_eq hgov hroll)

section

variable (s : State)

theorem raiseNotice_early (n : Notice) : EarlyWork s (raiseNotice n s) :=
  ⟨(raiseNotice_haltStep n s).trim, (raiseNotice_later s n).phase⟩

theorem raiseAll_early (ns : List Notice) : EarlyWork s (raiseAll ns s) :=
  ⟨(raiseAll_haltStep ns s).trim, (raiseAll_later s ns).phase⟩

theorem raiseWhen_early (c : Bool) (n : Notice) : EarlyWork s (raiseWhen c n s) :=
  ⟨(raiseWhen_haltStep c n s).trim, (raiseWhen_later s c n).phase⟩

theorem examineGood_early (f : Frame) : EarlyWork s (examineGood f s) := by
  unfold examineGood
  dsimp only
  split
  · exact .of_eq rfl rfl
  · split
    · exact (raiseNotice_early _ _).after_eq rfl rfl
    · split
      · exact (raiseNotice_early _ _).after_eq rfl rfl
      · exact .of_eq rfl rfl

theorem doorTest_early : EarlyWork s (doorTest s) := by
  unfold doorTest
  split
  · exact .of_eq rfl rfl
  · exact (raiseWhen_early _ _ _).after_eq rfl rfl

theorem sampleWork_early (f : Frame) : EarlyWork s (sampleWork f s) := by
  have hdoor : EarlyWork s (doorTest (latchLines s)) := (doorTest_early _).after_eq rfl rfl
  have hconverted : ∀ t, EarlyWork t (convertArrival f.slots t) := fun t => (raiseAll_early _ _).after_eq rfl rfl
  have hbehind : ∀ t, EarlyWork t (noteBehind (beltLost s) t) := fun t => .of_eq (by simp) (by simp)
  exact (hdoor.trans (hconverted _)).trans (hbehind _)

theorem sampled_early (rx : Reception) : EarlyWork s (sampled rx s) := by
  have htaken : EarlyWork s (takeIn rx s) := .of_eq rfl rfl
  have hcounted : EarlyWork (takeIn rx s) (countArrival (examineGood rx.frame (takeIn rx s))) :=
    (examineGood_early _ _).and_eq rfl rfl
  exact (htaken.trans hcounted).trans (sampleWork_early _ _)

theorem passEntry_early (e : StrokeEntry) (rest : List StrokeEntry) : EarlyWork s (passEntry e rest s) := by
  have hissue : ∀ t, EarlyWork t (issueRequests t) := fun t => .of_eq (by simp) (by simp)
  unfold passEntry
  dsimp only
  split
  · refine EarlyWork.trans ?_ (hissue _)
    exact (raiseNotice_early _ _).after_eq rfl rfl
  · refine EarlyWork.trans ?_ (hissue _)
    exact .of_eq rfl rfl

theorem passing_early (n : Nat) : EarlyWork s (passing n s) := by
  induction n generalizing s with
  | zero => exact .of_eq rfl rfl
  | succ n ih =>
    rw [passing]
    split
    · exact .of_eq rfl rfl
    · split
      · exact (passEntry_early s _ _).trans (ih _)
      · exact .of_eq rfl rfl

theorem foldWork_early : EarlyWork s (foldWork s) := by
  unfold foldWork
  split
  · exact .of_eq rfl rfl
  · exact (passing_early s _).and_eq rfl rfl

theorem updateZones_early (l : List (Fin 6)) : EarlyWork s (updateZones l s) := by
  induction l generalizing s with
  | nil => exact .of_eq rfl rfl
  | cons z l ih =>
    refine EarlyWork.trans ?_ (ih _)
    exact (raiseAll_early _ _).after_eq rfl rfl

theorem tunnelRegulation_early : EarlyWork s (tunnelRegulation s) := by
  have hpressure : ∀ t, EarlyWork t (pressureTest t) := fun t => (raiseWhen_early _ _ _).after_eq rfl rfl
  have hvalves : ∀ t, EarlyWork t (regulateValves t) := fun t => .of_eq rfl rfl
  exact ((updateZones_early s _).trans (hpressure _)).trans (hvalves _)

theorem freeExpired_early (n : SpindleName) : EarlyWork s (freeExpired n s) := by
  unfold freeExpired
  dsimp only
  split
  · refine ⟨.of_eq rfl, ?_⟩
    generalize ({ Spindle.reset with diameterLost := (spindle s.roll n).diameterLost } : Spindle) = x
    have hset : (setSpindle s.roll n x).attempts = s.roll.attempts ∧ (setSpindle s.roll n x).splice = s.roll.splice
        ∧ (setSpindle s.roll n x).phase = s.roll.phase := by cases n <;> exact ⟨rfl, rfl, rfl⟩
    obtain ⟨hattempts, hsplice, hphase⟩ := hset
    have hidle : ∀ r : RollChange, (restIfIdle r).attempts = r.attempts ∧ (restIfIdle r).phase = r.phase
        ∧ (r.splice = .paste → (restIfIdle r).splice = .paste) := fun r => by
      unfold restIfIdle
      split
      · next h => exact ⟨rfl, rfl, fun hp => by simp [hp] at h⟩
      · exact ⟨rfl, rfl, id⟩
    obtain ⟨hattempts', hphase', hpaste⟩ := hidle (setSpindle s.roll n x)
    exact ⟨hattempts'.trans hattempts, fun hp => ⟨hpaste (hsplice.trans hp), hphase'.trans hphase⟩⟩
  · exact .of_eq rfl rfl

theorem measureRolls_early : EarlyWork s (measureRolls s) := ⟨.of_eq rfl, rfl, fun hp => ⟨hp, rfl⟩⟩

theorem runoutTest_early : EarlyWork s (runoutTest s) := raiseWhen_early s _ _

theorem entryWork_early : EarlyWork s (entryWork s) := .of_eq (by simp) (by simp)

/-- What the work of an arrival up to the phases of a splice leaves. -/
theorem beforeSplice_early (rx : Reception) : EarlyWork s (beforeSplice rx s) := by
  have hweb := ((sampled_early s rx).trans (foldWork_early _)).trans ((entryWork_early _).trans (tunnelRegulation_early _))
  have hrolls : ∀ t, EarlyWork t (runoutTest (measureRolls (freeExpired .b (freeExpired .a t)))) := fun t =>
    ((freeExpired_early t .a).trans (freeExpired_early _ .b)).trans ((measureRolls_early _).trans (runoutTest_early _))
  rw [beforeSplice]
  exact hweb.trans (hrolls _)

/-! ### The splice and the decision leave the trim count -/

theorem matchingWork_trim (ts : Timestamp) : TrimKept s (matchingWork ts s) := by
  have hfails : ∀ t, TrimKept t (failMatch t) := fun t => by
    unfold failMatch
    dsimp only
    split
    · exact (raiseNotice_early _ _).trim.after_eq rfl
    · exact ((raiseNotice_early _ _).trans (raiseNotice_early _ _)).trim.after_eq rfl
  unfold matchingWork
  dsimp only
  generalize (if speedMatches s then s.roll.matchCount + 1 else 0) = n
  split
  · exact .of_eq rfl
  · split
    · exact (hfails _).after_eq rfl
    · exact .of_eq rfl

theorem spliceWork_trim (ts : Timestamp) : TrimKept s (spliceWork ts s) := by
  unfold spliceWork
  split
  · exact matchingWork_trim s ts
  · unfold pasteWork
    split
    · exact .of_eq (by simp)
    · split
      · exact (raiseNotice_early _ _).trim.after_eq rfl
      · exact .of_eq rfl
  · unfold clearWork
    split
    · exact (raiseNotice_early _ _).trim.after_eq rfl
    · exact .of_eq rfl
  · exact .of_eq (by simp)
  all_goals exact .of_eq rfl

theorem armingTests_trim (ts : Timestamp) : TrimKept s (armingTests ts s) := by
  unfold armingTests
  split
  · split
    · unfold armingOn
      dsimp only
      split
      · exact (raiseNotice_early _ _).trim.after_eq rfl
      · split
        · exact (raiseNotice_early _ _).trim.after_eq rfl
        · exact .of_eq rfl
    · exact .of_eq rfl
  · exact .of_eq rfl

theorem raiseWhileRunning_trim (ns : List Notice) : TrimKept s (raiseWhileRunning ns s) := by
  induction ns generalizing s with
  | nil => exact .of_eq rfl
  | cons n ns ih =>
    rw [raiseWhileRunning]
    split
    · exact (raiseNotice_early s n).trim.trans (ih _)
    · exact .of_eq rfl

theorem decideForGap_trim (ts : Timestamp) : TrimKept s (decideForGap ts s) := by
  unfold decideForGap
  dsimp only
  have hraised : TrimKept s (raiseWhileRunning (panelDecision s).2.2 (panelDecision s).1) :=
    (raiseWhileRunning_trim _ _).after_eq (by simp)
  split
  · exact hraised.trans ((raiseAll_early _ _).trim.after_eq (by simp))
  · exact hraised

theorem closePanel_trim (i : Fin 64) : TrimKept s (closePanel i s).1 := by
  unfold closePanel
  dsimp only
  split
  · constructor
    simp
  · exact .of_eq (by simp)

theorem sequencerOutcome_trim (ts : Timestamp) : TrimKept s (sequencerOutcome ts s).1 := by
  have hdecides : ∀ t : State, (decideAfterClosing ts t).1.gov = t.gov := fun t => by simp
  unfold sequencerOutcome
  split
  · exact .of_eq rfl
  · split
    · exact .of_eq rfl
    · unfold sequencerOn
      dsimp only
      split
      · split
        · exact (closePanel_trim s _).and_eq (hdecides _)
        · exact .of_eq rfl
      · split
        · exact decideForGap_trim s ts
        · exact .of_eq rfl
      · split
        · exact .of_eq ((hdecides _).trans (by simp))
        · exact .of_eq rfl
      · exact .of_eq rfl

theorem accountAll_trim (interval : Nat) (l : List (Fin 64)) : TrimKept s (accountAll interval l s) := by
  induction l generalizing s with
  | nil => exact .of_eq rfl
  | cons i l ih =>
    have hrecord : TrimKept s (accountRecord interval i s) := by
      unfold accountRecord
      dsimp only
      split
      · exact (raiseWhen_early _ _ _).trim.after_eq rfl
      · exact .of_eq rfl
    exact hrecord.trans (ih _)

theorem drainTests_trim : TrimKept s (drainTests s) := by
  unfold drainTests
  split
  · exact ⟨rfl⟩
  · exact .of_eq rfl

theorem compose_trim : TrimKept s (compose s) := by
  unfold compose
  split
  · refine TrimKept.trans ?_ (raiseAll_early _ _).trim
    exact ⟨rfl⟩
  · exact ⟨rfl⟩

theorem rampStep_trim : TrimKept s (rampStep s) := ⟨by rw [rampStep_command]⟩

end

/-- The roll change controller's work from its phases on (R166). -/
theorem rollWork_eq (ts : Timestamp) (s x : State)
    (h : x = runoutTest (measureRolls (freeExpired .b (freeExpired .a s)))) : rollWork ts s =
    pasteField (if (spliceWork ts x).roll.splice = x.roll.splice then armingTests ts (spliceWork ts x)
      else spliceWork ts x) := by
  rw [h]
  rfl

theorem beforeDecision_eq (rx : Reception) (s : State) (ts : Timestamp) : beforeDecision ts (sampled rx s) =
    pasteField (if (spliceWork ts (beforeSplice rx s)).roll.splice = (beforeSplice rx s).roll.splice then
      armingTests ts (spliceWork ts (beforeSplice rx s)) else spliceWork ts (beforeSplice rx s)) := by
  rw [beforeDecision]
  exact rollWork_eq ts _ _ (by rw [beforeSplice])

theorem beforeDecision_trim (rx : Reception) (s : State) (ts : Timestamp) : TrimKept s (beforeDecision ts (sampled rx s)) := by
  have hspliced := (beforeSplice_early s rx).trim.trans (spliceWork_trim _ ts)
  have hfield : ∀ t, TrimKept t (pasteField t) := fun t => .of_eq rfl
  rw [beforeDecision_eq]
  refine TrimKept.trans ?_ (hfield _)
  split
  · exact hspliced.trans (armingTests_trim _ ts)
  · exact hspliced

theorem webWork_trim (rx : Reception) (s : State) (ts : Timestamp) : TrimKept s (webWork ts (sampled rx s)) := by
  have hsequenced : ∀ t, TrimKept t (sequencerWork ts t) := fun t =>
    (sequencerOutcome_trim t ts).trans (raiseAll_early _ _).trim
  rw [webWork]
  exact (beforeDecision_trim rx s ts).trans (hsequenced _)

theorem tunnelAccounting_trim (interval : Nat) (s : State) : TrimKept s (tunnelAccounting interval s) := by
  unfold tunnelAccounting
  split
  · exact .of_eq rfl
  · exact accountAll_trim s interval _

/-- The count of the trim at its limit stands up to where the governor forms the infeed speed. -/
theorem beforeInfeed_trim (rx : Reception) (s : State) : TrimKept s (beforeInfeed rx s) := by
  have hgoverned : ∀ t, TrimKept t (rampStep (compose (drainTests t))) := fun t =>
    (drainTests_trim t).trans ((compose_trim _).trans (rampStep_trim _))
  rw [beforeInfeed]
  exact ((webWork_trim rx s _).trans (tunnelAccounting_trim _ _)).trans (hgoverned _)

end Sys2Proof.Proofs

/-! The phases of a splice at an ACTIVE arrival (for O60). -/

namespace Sys2Proof.Proofs

open Machine Statements Safety

/-! ### An event that an ACTIVE arrival brings about -/

/-- What an ACTIVE arrival's work leaves (section 1.4). -/
def worked (rx : Reception) (s : State) : State :=
  activeWork (frameInterval s.port rx.frame) rx.frame.timestamp (sampled rx s)

/-- An event that is due at an ACTIVE arrival answers the state of its frame, with the blocks that the work leaves. -/
theorem event_of_activeArrival {due : State → State → Bool} {rx : Reception} {s : State} (h : ActiveArrival rx s)
    (hdue : due (takeIn rx s) (worked rx s) = true) : ∃ t, inFrame due rx s = .next t ∧ exec (.cycleFrame rx) s = .next t
      ∧ t.roll = (worked rx s).roll ∧ t.gov = (worked rx s).gov ∧ t.tunnel = (worked rx s).tunnel
      ∧ t.notices = (worked rx s).notices := by
  obtain ⟨d, hreceive⟩ := exec_activeArrival h
  obtain ⟨htime, hactive, hgood, -⟩ := h
  have hserved : Served (takeIn rx s) := .inr hactive
  have hwork : frameWork rx.frame (takeIn rx s) = worked rx s :=
    (frameWork_arrival hserved hgood).trans (arrival_active hactive)
  have hreceive' : receive rx s = (worked rx s).withDownstream (some d) := hreceive
  refine ⟨receive rx s, inFrame_due ?_, rfl, ?_⟩
  · rw [atReception_in_time htime, hwork]
    exact hdue
  · rw [hreceive']
    generalize worked rx s = w
    exact ⟨rfl, rfl, rfl, rfl⟩

/-- No notice that was pending at the panel decision is cleared by the rest of the work. -/
theorem afterDecision_grows (n : Nat) (ts : Timestamp) (s : State) :
    NoticesGrow (beforeDecision ts s) (activeWork n ts s) := by
  have hsequenced : ∀ t, NoticesGrow t (sequencerWork ts t) := fun t =>
    (sequencerOutcome_grows ts t).trans (raiseAll_grows _ _)
  have hlater : ∀ t, NoticesGrow t (takeOffWork (exitWork ts t)) := fun t =>
    (exitWork_grows ts t).trans (takeOffWork_grows _)
  rw [activeWork, webWork]
  exact ((hsequenced _).trans (lineWork_grows n _ _ ts _)).trans (hlater _)

/-! ### A phase that goes on -/

theorem phaseExceeds_iff {r : RollChange} {ts : Timestamp} {timeout : Nat} :
    phaseExceeds r ts timeout = true ↔ Outlasted r ts timeout := by
  unfold phaseExceeds Outlasted
  cases r.phase with
  | none => exact ⟨(nomatch ·), fun ⟨p, hp, _⟩ => (nomatch hp)⟩
  | some p => exact ⟨fun h => ⟨p, rfl, of_decide_eq_true h⟩, fun ⟨_, hp, h⟩ => decide_eq_true (Option.some.inj hp ▸ h)⟩

/-- A match that neither completes nor fails (R169). -/
theorem spliceWork_matchesOn {ts : Timestamp} {s : State} (h : s.roll.splice = .matching)
    (hcount : s.roll.matchCount < 9 ∨ speedMatches s = false) : spliceWork ts s =
      let t := s.withRoll { s.roll with matchCount := if speedMatches s = true then s.roll.matchCount + 1 else 0 }
      if phaseExceeds s.roll ts s.roll.settings.matchTimeout then failMatch t else t := by
  have hfew : ¬10 ≤ (if speedMatches s = true then s.roll.matchCount + 1 else 0) := by
    obtain hfew | hno := hcount
    · split <;> omega
    · simp [hno]
  rw [spliceWork, h]
  dsimp only
  rw [matchingWork]
  dsimp only
  rw [if_neg hfew]
  rfl

/-- The count of ten (R169). -/
theorem spliceWork_matches {ts : Timestamp} {s : State} (h : s.roll.splice = .matching) (hcount : 9 ≤ s.roll.matchCount)
    (hmatch : speedMatches s = true) :
    spliceWork ts s = s.withRoll { s.roll with matchCount := 10, splice := .paste, phase := some ts } := by
  rw [spliceWork, h]
  dsimp only
  rw [matchingWork]
  dsimp only
  rw [if_pos hmatch, if_pos (by omega)]

/-- A paste without its confirmation (R170). -/
theorem spliceWork_pastes {ts : Timestamp} {s : State} (h : s.roll.splice = .paste)
    (hno : inputReads s .pasterConfirm = false) : spliceWork ts s =
      if phaseExceeds s.roll ts s.roll.settings.pasteTimeout then
        raiseNotice .pasteFail (s.withRoll { s.roll with splice := .failed }) else s := by
  rw [spliceWork, h]
  dsimp only
  rw [pasteWork, hno]
  rfl

theorem phasesGoOn : PhasesGoOn := by
  intro ts s
  constructor
  · intro h hwithin hcount
    rw [spliceWork_matchesOn h hcount]
    exact if_neg (by rwa [phaseExceeds_iff])
  · intro h hwithin hno
    rw [spliceWork_pastes h hno]
    exact if_neg (by rwa [phaseExceeds_iff])

/-! ### What the phases find and what they leave -/

theorem sampled_routes (rx : Reception) (s : State) : (sampled rx s).notices.routes = s.notices.routes := by
  simp [sampled, countArrival, takeIn]

theorem sampled_rollSettings (rx : Reception) (s : State) : (sampled rx s).roll.settings = s.roll.settings := by
  simp [sampled, countArrival, takeIn]

theorem beforeSplice_routes (rx : Reception) (s : State) : (beforeSplice rx s).notices.routes = s.notices.routes := by
  rw [← sampled_routes rx s]
  simp [beforeSplice]

theorem beforeSplice_rollSettings (rx : Reception) (s : State) :
    (beforeSplice rx s).roll.settings = s.roll.settings := by
  rw [← sampled_rollSettings rx s]
  simp [beforeSplice]

/-- A phase that has ended leaves no arming test to the arrival (R166). -/
theorem beforeDecision_of_ended {rx : Reception} {s y : State} {ts : Timestamp} (hy : spliceWork ts (beforeSplice rx s) = y)
    (hended : y.roll.splice ≠ (beforeSplice rx s).roll.splice) : beforeDecision ts (sampled rx s) = pasteField y := by
  rw [beforeDecision_eq, hy, if_neg hended]

theorem armingTests_later (ts : Timestamp) (s : State) : RollStep s (armingTests ts s) := by
  unfold armingTests
  split
  · split
    · unfold armingOn
      dsimp only
      split
      · next h => exact RollStep.trans ⟨enterMatching_later ts h.1⟩ (raiseNotice_later _ _)
      · split
        · next h =>
          refine RollStep.trans ⟨?_⟩ (raiseNotice_later _ _)
          exact RollLater.of_splice (p := s.roll.phase) (n := s.roll.matchCount) (by simp [h.1]) (by simp)
        · exact .refl s
    · exact .refl s
  · exact .refl s

/-- What the phases and the arming tests leave, up to the paste field. -/
theorem beforeDecision_later {rx : Reception} {s y : State} {ts : Timestamp}
    (hy : RollStep y (spliceWork ts (beforeSplice rx s))) (hn : NoticesGrow y (spliceWork ts (beforeSplice rx s))) :
    ∃ z, RollStep y z ∧ NoticesGrow y z ∧ beforeDecision ts (sampled rx s) = pasteField z := by
  rw [beforeDecision_eq]
  split
  · exact ⟨_, hy.trans (armingTests_later ts _), hn.trans (armingTests_grows ts _), rfl⟩
  · exact ⟨_, hy, hn, rfl⟩

theorem worked_later (rx : Reception) (s : State) :
    RollStep (beforeDecision rx.frame.timestamp (sampled rx s)) (worked rx s) := activeWork_later _ _ _

theorem worked_grows (rx : Reception) (s : State) :
    NoticesGrow (beforeDecision rx.frame.timestamp (sampled rx s)) (worked rx s) := afterDecision_grows _ _ _

/-- The controller after a phase that left it in PASTE, CLEAR or FAILED. -/
theorem worked_roll_of_ended {rx : Reception} {s y : State} (hy : spliceWork rx.frame.timestamp (beforeSplice rx s) = y)
    (hended : y.roll.splice ≠ (beforeSplice rx s).roll.splice)
    (hstands : y.roll.splice = .paste ∨ y.roll.splice = .clear ∨ y.roll.splice = .failed) :
    ∃ x, (worked rx s).roll = { (pasteField y).roll with span := x } := by
  have hstep := (worked_later rx s).later
  rw [beforeDecision_of_ended hy hended] at hstep
  exact ⟨_, hstep.stands hstands⟩

/-! ### The three events -/

theorem matchCompletes {rx : Reception} {s : State} (h : ActiveArrival rx s) (hs : s.roll.splice = .matching)
    (hx : (beforeSplice rx s).roll.splice = .matching) (hcount : 9 ≤ (beforeSplice rx s).roll.matchCount)
    (hmatch : speedMatches (beforeSplice rx s) = true) :
    ∃ t, exec (.matchComplete rx) s = .next t ∧ exec (.cycleFrame rx) s = .next t
      ∧ t.roll.splice = .paste ∧ t.roll.matchCount = 10 ∧ t.roll.phase = some rx.frame.timestamp
      ∧ t.roll.paste = spindleIn (beforeSplice rx s).roll .loaded := by
  obtain ⟨span, hroll⟩ := worked_roll_of_ended (spliceWork_matches (ts := rx.frame.timestamp) hx hcount hmatch)
    (by rw [hx]; exact (nomatch ·)) (.inl rfl)
  have hdue : dueMatch (takeIn rx s) (worked rx s) = true := by
    have hbefore : (takeIn rx s).roll.splice = .matching := hs
    rw [dueMatch, hroll, hbefore]
    rfl
  obtain ⟨t, hexec, hframe, ht, -⟩ := event_of_activeArrival h hdue
  refine ⟨t, hexec, hframe, ?_⟩
  rw [ht, hroll]
  generalize beforeSplice rx s = x
  exact ⟨rfl, rfl, rfl, rfl⟩

/-- A failed match counts an attempt and waits ARMED; the third fails the splice (R169). -/
theorem failMatch_eq {s : State} (h : s.roll.attempts < 3) : failMatch s =
    if s.roll.attempts = 2 then raiseNotice .spliceFailed (raiseNotice .matchFail
      (s.withRoll { s.roll with attempts := s.roll.attempts + 1, matchCount := 0, splice := .failed }))
    else raiseNotice .matchFail
      (s.withRoll { s.roll with attempts := s.roll.attempts + 1, matchCount := 0, splice := .armed }) := by
  have hcount : saturate 3 s.roll.attempts 1 = s.roll.attempts + 1 := by
    unfold saturate
    omega
  rw [failMatch]
  dsimp only
  rw [hcount]
  by_cases hlast : s.roll.attempts = 2
  · rw [if_pos hlast, if_neg (by omega)]
  · rw [if_neg hlast, if_pos (by omega)]

/-- The match that times out, with the notices it raises (R169). -/
theorem spliceWork_timesOut {ts : Timestamp} {s : State} (h : s.roll.splice = .matching)
    (hcount : s.roll.matchCount < 9 ∨ speedMatches s = false)
    (hlong : Outlasted s.roll ts s.roll.settings.matchTimeout) (hfew : s.roll.attempts < 3) : spliceWork ts s =
      if s.roll.attempts = 2 then raiseNotice .spliceFailed (raiseNotice .matchFail
        (s.withRoll { s.roll with attempts := s.roll.attempts + 1, matchCount := 0, splice := .failed }))
      else raiseNotice .matchFail
        (s.withRoll { s.roll with attempts := s.roll.attempts + 1, matchCount := 0, splice := .armed }) := by
  rw [spliceWork_matchesOn h hcount]
  dsimp only
  rw [if_pos (phaseExceeds_iff.mpr hlong)]
  exact failMatch_eq (s := s.withRoll _) hfew

/-- What a phase leaves of the notices and of the items that are not the joint span and the paste field. -/
theorem worked_of_phase {rx : Reception} {s y : State}
    (hy : RollStep y (spliceWork rx.frame.timestamp (beforeSplice rx s)))
    (hn : NoticesGrow y (spliceWork rx.frame.timestamp (beforeSplice rx s))) :
    NoticesGrow y (worked rx s) ∧ (worked rx s).roll.attempts = y.roll.attempts
      ∧ (y.roll.splice = .failed → (worked rx s).roll.splice = .failed)
      ∧ (y.roll.splice ≠ .paste → y.roll.splice ≠ .failed →
          (worked rx s).roll.splice ≠ .paste ∧ (worked rx s).roll.splice ≠ .failed) := by
  obtain ⟨z, hz, hgrow, hdecides⟩ := beforeDecision_later hy hn
  have hstep := (worked_later rx s).later
  have hnotices := worked_grows rx s
  rw [hdecides] at hstep hnotices
  have hfield : NoticesGrow z (pasteField z) := .of_eq rfl
  refine ⟨(hgrow.trans hfield).trans hnotices, hstep.attempts.trans hz.later.attempts, fun hf => ?_, fun hp hf => ?_⟩
  · have hzf : z.roll.splice = .failed := by
      rw [hz.later.stands (.inr (.inr hf))]
      exact hf
    rw [hstep.stands (.inr (.inr hzf))]
    exact hzf
  · exact hstep.enters (hz.later.enters hp hf).1 (hz.later.enters hp hf).2

/-- A notice that a phase raises is pending once the work is done. -/
theorem worked_pending {rx : Reception} {s y : State} {n : Notice} (hgrow : NoticesGrow (raiseNotice n y) (worked rx s))
    (hroutes : y.notices.routes = s.notices.routes) (he : s.notices.routes[noticeIndex n].enabled = true) :
    isPending (worked rx s).notices (noticeIndex n) = true := by
  refine hgrow.keeps _ (raiseNotice_pending n y ?_)
  rw [hroutes]
  exact he

/-- The third match that fails (R169). -/
theorem worked_thirdFailure {rx : Reception} {s y : State} (hroutes : y.notices.routes = s.notices.routes)
    (hy : spliceWork rx.frame.timestamp (beforeSplice rx s) = raiseNotice .spliceFailed (raiseNotice .matchFail y)) :
    (worked rx s).roll.attempts = y.roll.attempts ∧ (y.roll.splice = .failed → (worked rx s).roll.splice = .failed)
      ∧ PendingIfEnabled .matchFail s (worked rx s) ∧ PendingIfEnabled .spliceFailed s (worked rx s) := by
  have hphase := fun z => worked_of_phase (rx := rx) (s := s) (y := z)
  rw [hy] at hphase
  obtain ⟨-, hattempts, hfails, -⟩ := hphase y ((raiseNotice_later y .matchFail).trans (raiseNotice_later _ _))
    ((raiseNotice_grows _ _).trans (raiseNotice_grows _ _))
  obtain ⟨hfirst, -⟩ := hphase _ (raiseNotice_later _ _) (raiseNotice_grows _ _)
  obtain ⟨hsecond, -⟩ := hphase _ (.refl _) (.refl _)
  have hroutes' : (raiseNotice .matchFail y).notices.routes = s.notices.routes := by simpa using hroutes
  exact ⟨hattempts, hfails, worked_pending hfirst hroutes, worked_pending hsecond hroutes'⟩

/-- A match that fails before the third (R169). -/
theorem worked_earlierFailure {rx : Reception} {s y : State} (hroutes : y.notices.routes = s.notices.routes)
    (hy : spliceWork rx.frame.timestamp (beforeSplice rx s) = raiseNotice .matchFail y) :
    (worked rx s).roll.attempts = y.roll.attempts ∧ (y.roll.splice ≠ .paste → y.roll.splice ≠ .failed →
        (worked rx s).roll.splice ≠ .paste ∧ (worked rx s).roll.splice ≠ .failed)
      ∧ PendingIfEnabled .matchFail s (worked rx s) := by
  have hphase := fun z => worked_of_phase (rx := rx) (s := s) (y := z)
  rw [hy] at hphase
  obtain ⟨-, hattempts, -, hstays⟩ := hphase y (raiseNotice_later _ _) (raiseNotice_grows _ _)
  obtain ⟨hgrow, -⟩ := hphase _ (.refl _) (.refl _)
  exact ⟨hattempts, hstays, worked_pending hgrow hroutes⟩

/-- What a match that times out leaves (R169). -/
theorem worked_matchTimesOut {rx : Reception} {s x : State} (hbefore : beforeSplice rx s = x) (hx : x.roll.splice = .matching)
    (hcount : x.roll.matchCount < 9 ∨ speedMatches x = false)
    (hlong : Outlasted x.roll rx.frame.timestamp x.roll.settings.matchTimeout) (hfew : x.roll.attempts < 3) :
    (worked rx s).roll.attempts = x.roll.attempts + 1 ∧ PendingIfEnabled .matchFail s (worked rx s)
      ∧ (x.roll.attempts = 2 → (worked rx s).roll.splice = .failed ∧ PendingIfEnabled .spliceFailed s (worked rx s))
      ∧ (x.roll.attempts < 2 → (worked rx s).roll.splice ≠ .failed ∧ (worked rx s).roll.splice ≠ .paste) := by
  have hroutes : x.notices.routes = s.notices.routes := by rw [← hbefore, beforeSplice_routes]
  have hended := spliceWork_timesOut hx hcount hlong hfew
  rw [← hbefore] at hended
  by_cases hlast : x.roll.attempts = 2
  · rw [hbefore, if_pos hlast, ← hbefore] at hended
    obtain ⟨hattempts, hfails, hmatch, hsplice⟩ := worked_thirdFailure (by rw [hbefore]; exact hroutes) hended
    rw [hbefore] at hattempts hfails
    exact ⟨hattempts, hmatch, fun _ => ⟨hfails rfl, hsplice⟩, fun hless => absurd hlast (Nat.ne_of_lt hless)⟩
  · rw [hbefore, if_neg hlast, ← hbefore] at hended
    obtain ⟨hattempts, hstays, hmatch⟩ := worked_earlierFailure (by rw [hbefore]; exact hroutes) hended
    rw [hbefore] at hattempts hstays
    exact ⟨hattempts, hmatch, fun hlast' => absurd hlast' hlast, fun _ => (hstays (nomatch ·) (nomatch ·)).symm⟩

theorem matchTimesOut {rx : Reception} {s : State} (h : ActiveArrival rx s) (hs : s.roll.splice = .matching)
    (hx : (beforeSplice rx s).roll.splice = .matching)
    (hcount : (beforeSplice rx s).roll.matchCount < 9 ∨ speedMatches (beforeSplice rx s) = false)
    (hlong : Outlasted (beforeSplice rx s).roll rx.frame.timestamp (beforeSplice rx s).roll.settings.matchTimeout)
    (hfew : (beforeSplice rx s).roll.attempts < 3) :
    ∃ t, exec (.matchTimeout rx) s = .next t ∧ exec (.cycleFrame rx) s = .next t
      ∧ t.roll.attempts = (beforeSplice rx s).roll.attempts + 1 ∧ PendingIfEnabled .matchFail s t
      ∧ ((beforeSplice rx s).roll.attempts = 2 → t.roll.splice = .failed ∧ PendingIfEnabled .spliceFailed s t)
      ∧ ((beforeSplice rx s).roll.attempts < 2 → t.roll.splice ≠ .failed ∧ t.roll.splice ≠ .paste) := by
  have hworked := worked_matchTimesOut rfl hx hcount hlong hfew
  have hdue : dueMatchTimeout (takeIn rx s) (worked rx s) = true := by
    have hbefore : (takeIn rx s).roll = s.roll := rfl
    rw [dueMatchTimeout, hworked.1, (beforeSplice_early s rx).phase.attempts, hbefore, hs]
    simp
  obtain ⟨t, hexec, hframe, hroll, -, -, hnotices⟩ := event_of_activeArrival h hdue
  refine ⟨t, hexec, hframe, ?_⟩
  unfold PendingIfEnabled
  rw [hroll, hnotices]
  exact hworked

/-! ### A paste that is not confirmed -/

theorem pasteTimesOut {rx : Reception} {s : State} (h : ActiveArrival rx s) (hs : s.roll.splice = .paste)
    (hno : inputReads (beforeSplice rx s) .pasterConfirm = false)
    (hlong : Outlasted s.roll rx.frame.timestamp s.roll.settings.pasteTimeout) :
    ∃ t, exec (.pasteTimeout rx) s = .next t ∧ exec (.cycleFrame rx) s = .next t
      ∧ t.roll.splice = .failed ∧ t.roll.paste = none ∧ PendingIfEnabled .pasteFail s t := by
  obtain ⟨hpaste, hphase⟩ := (beforeSplice_early s rx).phase.pasting hs
  have hsettings := beforeSplice_rollSettings rx s
  have hroutes := beforeSplice_routes rx s
  have hlong' : Outlasted (beforeSplice rx s).roll rx.frame.timestamp (beforeSplice rx s).roll.settings.pasteTimeout := by
    rw [Outlasted, hphase, hsettings]
    exact hlong
  have hended := spliceWork_pastes (ts := rx.frame.timestamp) hpaste hno
  rw [if_pos (phaseExceeds_iff.mpr hlong')] at hended
  generalize hfailed : (beforeSplice rx s).withRoll { (beforeSplice rx s).roll with splice := .failed } = y at hended
  have hyroutes : y.notices.routes = s.notices.routes := by
    rw [← hroutes, ← hfailed]
    generalize beforeSplice rx s = x
    rfl
  have hyfailed : y.roll.splice = .failed := by
    rw [← hfailed]
    rfl
  have hraised : (raiseNotice .pasteFail y).roll.splice = .failed := by
    rw [(raiseNotice_later y .pasteFail).later.stands (.inr (.inr hyfailed))]
    exact hyfailed
  obtain ⟨span, hroll⟩ := worked_roll_of_ended hended (by rw [hraised, hpaste]; exact (nomatch ·)) (.inr (.inr hraised))
  have hsplice : (worked rx s).roll.splice = .failed := by
    rw [hroll]
    exact hraised
  have hfield : (worked rx s).roll.paste = none := by
    rw [hroll]
    exact if_neg (by rw [hraised]; exact (nomatch ·))
  have hpending : PendingIfEnabled .pasteFail s (worked rx s) := by
    have hdone := worked_of_phase (rx := rx) (s := s) (y := raiseNotice .pasteFail y)
    rw [hended] at hdone
    exact worked_pending (hdone (.refl _) (.refl _)).1 hyroutes
  have hdue : duePasteTimeout (takeIn rx s) (worked rx s) = true := by
    have hbefore : (takeIn rx s).roll.splice = .paste := hs
    rw [duePasteTimeout, hbefore, hsplice]
    rfl
  obtain ⟨t, hexec, hframe, ht, -, -, hnotices⟩ := event_of_activeArrival h hdue
  refine ⟨t, hexec, hframe, ?_⟩
  unfold PendingIfEnabled
  rw [ht, hnotices]
  exact ⟨hsplice, hfield, hpending⟩

/-- The phases of a splice end at an ACTIVE arrival (R169, R170). -/
theorem matchingAndPastingEnd : MatchingAndPastingEnd := by
  refine ⟨phasesGoOn, fun rx s h x hx => ?_⟩
  have hmatch := matchCompletes h
  have htimeout := matchTimesOut h
  have hpaste := pasteTimesOut h
  rw [← hx] at hmatch htimeout hpaste
  exact ⟨hmatch, htimeout, hpaste⟩

end Sys2Proof.Proofs

/-! The counts that an ACTIVE arrival completes, and the events of an ACTIVE arrival (O60). -/

namespace Sys2Proof.Proofs

open Machine Statements Safety

/-! ### A zone that settles -/

/-- The update that completes a zone's settle count (R146). -/
theorem zoneUpdate_settles {z : Zone} {q : Quantity}
    (h : (z.state = .warming ∨ z.state = .low ∨ z.state = .high) ∧ z.settings.settleCount ≤ z.progress + 1
      ∨ (z.state = .lost ∧ z.settings.settleCount ≤ 1)) (hq : q.lost = false) (hlow : z.settings.bandLow ≤ q.value.toNat)
    (hhigh : q.value.toNat ≤ z.settings.bandHigh) :
    (zoneUpdate z q).1.state = .inBand ∧ (zoneUpdate z q).1.progress = 0 := by
  obtain ⟨hstate, hcount⟩ | ⟨hlost, hcount⟩ := h
  · obtain ⟨-, -, -, -, -, -, hsettles, -⟩ := zoneUpdate_follows z q _ rfl
    rw [hsettles hstate hq hlow hhigh, if_pos hcount]
    exact ⟨rfl, rfl⟩
  · obtain ⟨-, -, -, -, -, hagain, -⟩ := zoneUpdate_follows z q _ rfl
    obtain ⟨-, -, -, -, -, -, hsettles, -⟩ := zoneUpdate_follows { z with state := .warming, progress := 0 } q _ rfl
    rw [hagain hlost hq, hsettles (.inl rfl) hq hlow hhigh, if_pos hcount]
    exact ⟨rfl, rfl⟩

theorem setZone_same (s : State) (z : Fin 6) (x : Zone) : (setZone s z x).tunnel.zones[z] = x := by
  simp [setZone]

theorem setZone_other {s : State} {z y : Fin 6} (x : Zone) (h : y ≠ z) :
    (setZone s z x).tunnel.zones[y] = s.tunnel.zones[y] := by
  simp only [setZone, State.withTunnel_tunnel, Fin.getElem_fin]
  exact Vector.getElem_set_ne _ _ fun e => h (Fin.ext e.symm)

/-- The zone updates of an arrival update each zone once, from what they find (R145). -/
theorem updateZones_zone {l : List (Fin 6)} (hl : l.Nodup) (s : State) (z : Fin 6) :
    (updateZones l s).tunnel.zones[z] =
      if z ∈ l then (zoneUpdate s.tunnel.zones[z] (quantity s (zoneQuantity z))).1 else s.tunnel.zones[z] := by
  induction l generalizing s with
  | nil => rfl
  | cons y l ih =>
    obtain ⟨hy, hrest⟩ := List.nodup_cons.mp hl
    generalize hr : zoneUpdate s.tunnel.zones[y] (quantity s (zoneQuantity y)) = r
    have hstep : updateZones (y :: l) s = updateZones l (raiseAll r.2 (setZone s y r.1)) := by rw [← hr]; rfl
    have hzones : (raiseAll r.2 (setZone s y r.1)).tunnel = (setZone s y r.1).tunnel := by simp
    have hquantity : quantity (raiseAll r.2 (setZone s y r.1)) (zoneQuantity z) = quantity s (zoneQuantity z) := by
      have hconverter : (raiseAll r.2 (setZone s y r.1)).converter = s.converter := by simp [setZone]
      rw [quantity, hconverter, quantity]
    rw [hstep, ih hrest, hzones, hquantity]
    by_cases hz : z = y
    · subst hz
      rw [if_neg hy, if_pos List.mem_cons_self, setZone_same, hr]
    · rw [setZone_other _ hz]
      simp [hz]

theorem valveOf_keeps (restarted door hold : Bool) (t : Nat) (z : Zone) :
    (valveOf restarted door hold t z).state = z.state ∧ (valveOf restarted door hold t z).progress = z.progress := by
  unfold valveOf
  (repeat' split) <;> exact ⟨rfl, rfl⟩

/-- What a zone's regulation leaves of its update. -/
theorem tunnelRegulation_zone (s : State) (z : Fin 6) :
    (tunnelRegulation s).tunnel.zones[z].state = (zoneUpdate s.tunnel.zones[z] (quantity s (zoneQuantity z))).1.state
    ∧ (tunnelRegulation s).tunnel.zones[z].progress =
        (zoneUpdate s.tunnel.zones[z] (quantity s (zoneQuantity z))).1.progress := by
  have hpressure : ∀ t : State, (pressureTest t).tunnel.zones = t.tunnel.zones := fun t => by simp [pressureTest]
  rw [tunnelRegulation, regulateValves_zone, hpressure, updateZones_zone (List.nodup_finRange 6), if_pos (List.mem_finRange z)]
  exact valveOf_keeps _ _ _ _ _

theorem sampled_tunnel (rx : Reception) (s : State) : (sampled rx s).tunnel = s.tunnel := by
  simp [sampled, countArrival, takeIn]

/-- The zones that the work of an ACTIVE arrival leaves (R145, R146). -/
theorem worked_zone (rx : Reception) (s : State) (z : Fin 6) :
    (worked rx s).tunnel.zones[z].state =
        (zoneUpdate s.tunnel.zones[z] (quantity (sampled rx s) (zoneQuantity z))).1.state
    ∧ (worked rx s).tunnel.zones[z].progress =
        (zoneUpdate s.tunnel.zones[z] (quantity (sampled rx s) (zoneQuantity z))).1.progress := by
  have hdecided : ∀ ts t, (beforeDecision ts t).tunnel = (tunnelRegulation (entryWork (foldWork t))).tunnel := fun ts t => by
    simp [beforeDecision]
  have hzones : ∀ t, (entryWork (foldWork t)).tunnel.zones = t.tunnel.zones := fun t =>
    (entryWork_zones _).trans (by simp)
  have hquantity : ∀ t q, quantity (entryWork (foldWork t)) q = quantity t q := fun t q => by simp [quantity]
  have hregulated := tunnelRegulation_zone (entryWork (foldWork (sampled rx s))) z
  rw [hzones, hquantity, sampled_tunnel] at hregulated
  rw [worked, activeWork_zones, hdecided]
  exact hregulated

theorem zoneSettles : ZoneSettles := by
  intro z rx s h x hx hsettles q hq hlost hlow hhigh
  have hworked := worked_zone rx s z
  rw [← hx, ← hq] at hworked
  obtain ⟨hstate, hprogress⟩ := zoneUpdate_settles hsettles hlost hlow hhigh
  have hbefore : (takeIn rx s).tunnel.zones[z].state ≠ .inBand := by
    have htunnel : (takeIn rx s).tunnel = s.tunnel := rfl
    rw [htunnel, ← hx]
    obtain ⟨hx | hx | hx, -⟩ | ⟨hx, -⟩ := hsettles <;> simp [hx]
  have hdue : dueSettled z (takeIn rx s) (worked rx s) = true := by
    rw [dueSettled, hworked.1, hstate]
    simpa using hbefore
  obtain ⟨t, hexec, hframe, -, -, htunnel, -⟩ := event_of_activeArrival h hdue
  refine ⟨t, hexec, hframe, ?_⟩
  rw [htunnel]
  exact ⟨hworked.1.trans hstate, hworked.2.trans hprogress⟩

/-! ### The trim that stays at its limit -/

/-- No notice that was pending where the governor formed the infeed speed is cleared by the rest of the work. -/
theorem afterInfeed_grows (rx : Reception) (s : State) :
    NoticesGrow (infeedStep (passedRatio (sampled rx s)) (beforeInfeed rx s)) (worked rx s) := by
  have hlater : ∀ splice ts t, NoticesGrow t (takeOffWork (exitWork ts (transitWork ts (stopTest (spindleStep splice t))))) :=
    fun splice ts t => by
      have hspindles : NoticesGrow t (spindleStep splice t) := .of_eq rfl
      have hstamped : ∀ u : State, NoticesGrow u (transitWork ts u) := fun u => .of_eq (by simp)
      exact ((hspindles.trans (stopTest_grows _)).trans (hstamped _)).trans
        ((exitWork_grows ts _).trans (takeOffWork_grows _))
  rw [worked, activeWork, lineWork, governorStep, beforeInfeed]
  exact hlater _ _ _

/-- The fiftieth trim at its limit (R136). -/
theorem infeedStep_countsFifty {ratio : Nat} {s : State} (hcount : s.gov.trimCount = 49) (hlimit : 0 < s.gov.settings.trimLimit)
    (htrim : (dancerTrim s.gov (quantity s 6)).natAbs = s.gov.settings.trimLimit) :
    infeedStep ratio s = raiseNotice .dancerLimit (s.withGov { s.gov with
      vIn := infeedSpeed s.gov ratio (dancerTrim s.gov (quantity s 6)), trimCount := 50 }) := by
  have hafter : trimCountAfter s.gov (dancerTrim s.gov (quantity s 6)) = 50 := by
    rw [trimCountAfter, if_pos ⟨hlimit, htrim⟩, hcount]
    rfl
  rw [infeedStep]
  dsimp only
  rw [hafter, hcount]
  rfl

theorem beforeInfeed_routes (rx : Reception) (s : State) : (beforeInfeed rx s).notices.routes = s.notices.routes := by
  rw [← sampled_routes rx s]
  simp [beforeInfeed]

theorem trimReachesItsCount : TrimReachesItsCount := by
  intro rx s h y hy hcount hlimit htrim
  have hbefore : y.gov.trimCount = 49 := by
    rw [hy, (beforeInfeed_trim rx s).count, hcount]
  have hroutes : y.notices.routes = s.notices.routes := by rw [hy, beforeInfeed_routes]
  have hreached := infeedStep_countsFifty (ratio := passedRatio (sampled rx s)) hbefore hlimit htrim
  have hspeeds := activeWork_speeds (frameInterval s.port rx.frame) rx.frame.timestamp (sampled rx s)
  have hgrow := afterInfeed_grows rx s
  have hgoverned := governed_eq rx s
  rw [← hy] at hgrow hgoverned
  generalize infeedStep (passedRatio (sampled rx s)) y = w at hreached hgrow hgoverned
  have hw : w.gov.trimCount = 50 := by
    rw [hreached]
    exact (raiseNotice_haltStep _ _).speeds.trimCount
  have hfifty : (worked rx s).gov.trimCount = 50 := by
    rw [worked, hspeeds.trimCount, hgoverned]
    exact hw
  have hdue : dueTrim (takeIn rx s) (worked rx s) = true := by
    have hgov : (takeIn rx s).gov = s.gov := rfl
    rw [dueTrim, hgov, hcount, hfifty]
    rfl
  obtain ⟨t, hexec, hframe, -, hgov, -, hnotices⟩ := event_of_activeArrival h hdue
  refine ⟨t, hexec, hframe, by rw [hgov, hfifty], ?_⟩
  rw [PendingIfEnabled, hnotices]
  rw [hreached] at hgrow
  exact worked_pending hgrow hroutes

/-- Settles O60: each event is due where the work of its ACTIVE arrival ends the phase or completes the count. -/
theorem eventsOfAnActiveArrival : Obligations.EventsOfAnActiveArrival :=
  ⟨matchingAndPastingEnd, zoneSettles, trimReachesItsCount⟩

end Sys2Proof.Proofs

/-! The checks of LEAVE_CONFIG (O12). -/

namespace Sys2Proof.Proofs

open Machine Statements

/-! ### The checks of the port (R14) -/

theorem insideOneWindow_iff {ws : Vector (Option Window) 4} {o n : Nat} :
    insideOneWindow ws o n = true ↔ InOneWindow ws o n := by
  unfold insideOneWindow InOneWindow
  rw [List.any_eq_true]
  constructor
  · rintro ⟨w, hw, hinside⟩
    obtain ⟨i, hi, rfl⟩ := Vector.mem_iff_getElem.mp (Vector.mem_toList_iff.mp hw)
    split at hinside
    · next x hx =>
      simp only [Bool.and_eq_true, decide_eq_true_eq] at hinside
      exact ⟨⟨i, hi⟩, x, hx, hinside⟩
    · exact (nomatch hinside)
  · rintro ⟨i, w, hw, hinside⟩
    refine ⟨ws[i], Vector.mem_toList_iff.mpr (Vector.getElem_mem i.isLt), ?_⟩
    rw [hw]
    simpa using hinside

/-- The windows of a direction end within the slot area. -/
theorem windowOutside_none {ws : Vector (Option Window) 4} {n : Nat} :
    windowOutside ws n = none ↔ ∀ (i : Fin 4) (w : Window), ws[i] = some w → w.limit < n := by
  unfold windowOutside
  rw [List.find?_eq_none]
  refine ⟨fun h i w hw => ?_, fun h i _ => ?_⟩
  · have hi := h i (List.mem_finRange i)
    rw [hw] at hi
    simpa using hi
  · split
    · next w hw => simpa using h i w hw
    · exact (nomatch ·)

theorem fieldOutside_none {p : RingPort} : fieldOutside p = none ↔
    ∀ (f : Fin 9) (o : Nat), p.map[f] = some o → InOneWindow p.writeWindows o (fieldSize f) := by
  unfold fieldOutside
  rw [List.find?_eq_none]
  refine ⟨fun h f o ho => ?_, fun h f _ => ?_⟩
  · have hf := h f (List.mem_finRange f)
    rw [ho] at hf
    rw [← insideOneWindow_iff]
    simpa using hf
  · split
    · next o ho => simpa using insideOneWindow_iff.mpr (h f o ho)
    · exact (nomatch ·)

theorem fieldsShare_iff {p : RingPort} {f k : Fin 9} : fieldsShare p f k = true ↔
    ∃ o q, p.map[f] = some o ∧ p.map[k] = some q ∧ o < q + fieldSize k ∧ q < o + fieldSize f := by
  unfold fieldsShare
  split
  · next o q ho hq => simp [ho, hq]
  · next hnone => exact ⟨(nomatch ·), fun ⟨o, q, ho, hq, _⟩ => (hnone o q ho hq).elim⟩

theorem fieldOverlapping_none {p : RingPort} : fieldOverlapping p = none ↔
    ∀ (f k : Fin 9) (o q : Nat), f < k → p.map[f] = some o → p.map[k] = some q →
      o + fieldSize f ≤ q ∨ q + fieldSize k ≤ o := by
  have hnone : fieldOverlapping p = none ↔ ∀ f k : Fin 9, f < k → fieldsShare p f k = false := by
    simp only [fieldOverlapping, List.find?_eq_none, List.mem_finRange, List.any_eq_true, true_and, true_implies, not_exists,
      Bool.and_eq_true, decide_eq_true_eq, not_and, Bool.not_eq_true]
    exact forall_comm
  rw [hnone]
  refine ⟨fun h f k o q hlt ho hq => ?_, fun h f k hlt => ?_⟩
  · by_contra hshare
    have : fieldsShare p f k = true := fieldsShare_iff.mpr ⟨o, q, ho, hq, by omega, by omega⟩
    rw [h f k hlt] at this
    exact (nomatch this)
  · rw [Bool.eq_false_iff]
    intro hshare
    obtain ⟨o, q, ho, hq, _, _⟩ := fieldsShare_iff.mp hshare
    have := h f k o q hlt ho hq
    omega

/-- A check of the enabled FRAME entries passes where it passes for each of them. -/
theorem frameEntries_find_none {c : Converter} {fails : Fin 16 → Bool} : (frameEntries c).find? fails = none ↔
    ∀ q : Fin 16, c.entries[q].enabled = true → c.entries[q].source = .frame → fails q = false := by
  simp [frameEntries, List.find?_eq_none]

/-- What the port's checks ask of the configuration (R14). -/
structure PortSound (s : State) (n : Nat) : Prop where
  length : s.port.slotLength = some n
  windows : ∀ (i : Fin 4) (w : Window), (s.port.readWindows[i] = some w ∨ s.port.writeWindows[i] = some w) → w.limit < n
  status : s.port.map[(8 : Fin 9)] ≠ none
  fields : ∀ (f : Fin 9) (o : Nat), s.port.map[f] = some o → InOneWindow s.port.writeWindows o (fieldSize f)
  apart : ∀ (f k : Fin 9) (o p : Nat), f < k → s.port.map[f] = some o → s.port.map[k] = some p →
    o + fieldSize f ≤ p ∨ p + fieldSize k ≤ o
  samples : ∀ q : Fin 16, ∀ e, e = s.converter.entries[q] → e.enabled = true → e.source = .frame →
    InOneWindow s.port.readWindows e.slotOffset ((e.bitOffset + e.width + 7) / 8)
      ∧ ∀ v, e.validity = some v → InOneWindow s.port.readWindows v 1

/-- The source bytes of an entry lie in no one read window (R14). -/
def bytesOutside (s : State) (q : Fin 16) : Bool :=
  !insideOneWindow s.port.readWindows s.converter.entries[q].slotOffset (sourceBytes s.converter.entries[q])

/-- The validity byte of an entry lies in no read window (R14). -/
def validityOutside (s : State) (q : Fin 16) : Bool :=
  match s.converter.entries[q].validity with
  | some v => !insideOneWindow s.port.readWindows v 1
  | none => false

theorem bytesOutside_no {s : State} {q : Fin 16} : bytesOutside s q = false ↔
    InOneWindow s.port.readWindows s.converter.entries[q].slotOffset (sourceBytes s.converter.entries[q]) := by
  rw [← insideOneWindow_iff, bytesOutside, Bool.not_eq_false']

theorem validityOutside_no {s : State} {q : Fin 16} : validityOutside s q = false ↔
    ∀ v, s.converter.entries[q].validity = some v → InOneWindow s.port.readWindows v 1 := by
  unfold validityOutside
  cases s.converter.entries[q].validity with
  | none => simp
  | some v =>
    rw [Bool.not_eq_false', insideOneWindow_iff]
    simp

/-- The two checks on the sources of the enabled FRAME entries (R14). -/
theorem frameSources_none {s : State} : ((frameEntries s.converter).find? (bytesOutside s) = none
      ∧ (frameEntries s.converter).find? (validityOutside s) = none) ↔
    ∀ q : Fin 16, ∀ e, e = s.converter.entries[q] → e.enabled = true → e.source = .frame →
      InOneWindow s.port.readWindows e.slotOffset ((e.bitOffset + e.width + 7) / 8)
        ∧ ∀ v, e.validity = some v → InOneWindow s.port.readWindows v 1 := by
  simp only [frameEntries_find_none, bytesOutside_no, validityOutside_no]
  constructor
  · rintro ⟨hbytes, hvalid⟩ q e rfl henabled hframe
    exact ⟨hbytes q henabled hframe, hvalid q henabled hframe⟩
  · intro h
    exact ⟨fun q he hf => (h q _ rfl he hf).1, fun q he hf => (h q _ rfl he hf).2⟩

/-- The checks of the port pass one after the other (R14). -/
theorem portViolation_none_iff {s : State} {n : Nat} (hn : s.port.slotLength = some n) : portViolation s = none ↔
    windowOutside s.port.readWindows n = none ∧ windowOutside s.port.writeWindows n = none
      ∧ s.port.map[statusField] ≠ none ∧ fieldOutside s.port = none ∧ fieldOverlapping s.port = none
      ∧ (frameEntries s.converter).find? (bytesOutside s) = none
      ∧ (frameEntries s.converter).find? (validityOutside s) = none := by
  unfold portViolation
  dsimp only
  rw [hn]
  dsimp only
  split
  · next h => exact ⟨(nomatch ·), fun ⟨hread, _⟩ => nomatch h.symm.trans hread⟩
  next hread =>
  split
  · next h => exact ⟨(nomatch ·), fun ⟨_, hwrite, _⟩ => nomatch h.symm.trans hwrite⟩
  next hwrite =>
  split
  · next h => exact ⟨(nomatch ·), fun ⟨_, _, hstatus, _⟩ => absurd h hstatus⟩
  next hstatus =>
  split
  · next h => exact ⟨(nomatch ·), fun ⟨_, _, _, hfields, _⟩ => nomatch h.symm.trans hfields⟩
  next hfields =>
  split
  · next h => exact ⟨(nomatch ·), fun ⟨_, _, _, _, hapart, _⟩ => nomatch h.symm.trans hapart⟩
  next hapart =>
  split
  · next h => exact ⟨(nomatch ·), fun ⟨_, _, _, _, _, hbytes, _⟩ => nomatch h.symm.trans hbytes⟩
  next hbytes =>
  split
  · next h => exact ⟨(nomatch ·), fun ⟨_, _, _, _, _, _, hvalid⟩ => nomatch h.symm.trans hvalid⟩
  next hvalid => exact ⟨fun _ => ⟨hread, hwrite, hstatus, hfields, hapart, hbytes, hvalid⟩, fun _ => rfl⟩

theorem portViolation_none {s : State} : portViolation s = none ↔ ∃ n, PortSound s n := by
  cases hn : s.port.slotLength with
  | none =>
    have hfound : portViolation s = some (2, 0, 0) := by
      unfold portViolation
      dsimp only
      rw [hn]
    rw [hfound]
    exact ⟨(nomatch ·), fun ⟨n, h⟩ => nomatch hn.symm.trans h.length⟩
  | some n =>
    rw [portViolation_none_iff hn, windowOutside_none, windowOutside_none, fieldOutside_none, fieldOverlapping_none,
      frameSources_none]
    constructor
    · rintro ⟨hread, hwrite, hstatus, hfields, hapart, hsamples⟩
      exact ⟨n, hn, fun i w hw => hw.elim (hread i w) (hwrite i w), hstatus, hfields, hapart, hsamples⟩
    · rintro ⟨m, h⟩
      obtain rfl : m = n := Option.some.inj (h.length.symm.trans hn)
      exact ⟨fun i w hw => h.windows i w (.inl hw), fun i w hw => h.windows i w (.inr hw), h.status, h.fields, h.apart,
        h.samples⟩

/-! ### The line sources (R40) -/

/-- A line that an entry may read. -/
def LineSound (s : State) (e : ConversionEntry) (l : Fin 32) : Prop :=
  s.lines.lines[l].function = .none ∧ s.lines.lines[l].mode = (if e.gray then ReadMode.grayLatched else ReadMode.latched)

theorem lineSourceFault_none {s : State} {e : ConversionEntry} {l : Fin 32} :
    lineSourceFault s e l = none ↔ LineSound s e l := by
  unfold lineSourceFault LineSound
  dsimp only
  split
  · next h => exact ⟨(nomatch ·), fun hsound => absurd hsound.1 h⟩
  · next h =>
    have hnone : s.lines.lines[l].function = .none := not_not.mp h
    rw [hnone]
    cases s.lines.lines[l].mode <;> cases e.gray <;> simp

theorem runFault_none {s : State} {e : ConversionEntry} {l : List (Fin 32)} :
    runFault s e l = none ↔ ∀ n ∈ l, LineSound s e n := by
  induction l with
  | nil => simp [runFault]
  | cons n l ih =>
    rw [runFault, List.forall_mem_cons, ← ih, ← lineSourceFault_none]
    cases lineSourceFault s e n <;> simp

/-- What the line-source checks ask of one entry (R40). -/
def EntryLinesSound (s : State) (q : Fin 16) : Prop :=
  s.converter.entries[q].enabled = true → s.converter.entries[q].source = .lines →
    ∀ l ∈ runLines s.converter.entries[q], LineSound s s.converter.entries[q] l

theorem lineSourceViolationIn_none {s : State} {l : List (Fin 16)} :
    lineSourceViolationIn s l = none ↔ ∀ q ∈ l, EntryLinesSound s q := by
  induction l with
  | nil => simp [lineSourceViolationIn]
  | cons q l ih =>
    rw [lineSourceViolationIn, List.forall_mem_cons, ← ih, EntryLinesSound, ← runFault_none]
    by_cases hreads : s.converter.entries[q].enabled = true ∧ s.converter.entries[q].source = .lines
    · rw [if_pos hreads]
      obtain ⟨henabled, hlines⟩ := hreads
      cases runFault s s.converter.entries[q] (runLines s.converter.entries[q]) with
      | none => simp
      | some v => exact ⟨(nomatch ·), fun ⟨hnone, _⟩ => nomatch hnone henabled hlines⟩
    · rw [if_neg hreads]
      exact ⟨fun h => ⟨fun he hl => absurd ⟨he, hl⟩ hreads, h⟩, fun h => h.2⟩

theorem lineSourceViolation_none {s : State} : lineSourceViolation s = none ↔
    ∀ q : Fin 16, ∀ e, e = s.converter.entries[q] → e.enabled = true → e.source = .lines →
      ∀ l : Fin 32, e.group * 8 + e.firstLine ≤ l.val → l.val < e.group * 8 + e.firstLine + e.width →
        s.lines.lines[l].function = .none
          ∧ s.lines.lines[l].mode = (if e.gray then ReadMode.grayLatched else ReadMode.latched) := by
  rw [lineSourceViolation, lineSourceViolationIn_none]
  have hrun : ∀ (e : ConversionEntry) (l : Fin 32), l ∈ runLines e ↔
      e.group * 8 + e.firstLine ≤ l.val ∧ l.val < e.group * 8 + e.firstLine + e.width := fun e l => by simp [runLines]
  constructor
  · rintro h q e rfl henabled hlines l hfirst hlast
    exact h q (List.mem_finRange q) henabled hlines l ((hrun _ l).mpr ⟨hfirst, hlast⟩)
  · intro h q _ henabled hlines l hl
    obtain ⟨hfirst, hlast⟩ := (hrun _ l).mp hl
    exact h q _ rfl henabled hlines l hfirst hlast

/-! ### The zones (R142) -/

theorem mem_fittedZones {t : Tunnel} {x : Nat × ZoneFit} :
    x ∈ fittedZones t ↔ ∃ z : Fin 6, t.zones[z].fit = some x.2 ∧ x.1 = z.val + 1 := by
  unfold fittedZones
  rw [List.mem_filterMap]
  constructor
  · rintro ⟨z, -, hz⟩
    obtain ⟨f, hf, rfl⟩ := Option.map_eq_some_iff.mp hz
    exact ⟨z, hf, rfl⟩
  · rintro ⟨z, hf, hx⟩
    exact ⟨z, List.mem_finRange z, by rw [hf, ← hx]; rfl⟩

theorem zoneOutside_none {g : Geometry} {t : Tunnel} : zoneOutside g (fittedZones t) = none ↔
    ∀ z : Fin 6, ∀ f, t.zones[z].fit = some f → g.entry ≤ f.spanStart ∧ f.spanEnd ≤ g.exit := by
  rw [zoneOutside, Option.map_eq_none_iff, List.find?_eq_none]
  refine ⟨fun h z f hf => ?_, fun h x hx => ?_⟩
  · have hz := h (z.val + 1, f) (mem_fittedZones.mpr ⟨z, hf, rfl⟩)
    simpa using hz
  · obtain ⟨z, hf, -⟩ := mem_fittedZones.mp hx
    simpa using h z x.2 hf

theorem zoneOverlapping_none {t : Tunnel} : zoneOverlapping (fittedZones t) = none ↔
    ∀ y z : Fin 6, ∀ a b, y < z → t.zones[y].fit = some a → t.zones[z].fit = some b →
      a.spanEnd ≤ b.spanStart ∨ b.spanEnd ≤ a.spanStart := by
  rw [zoneOverlapping, Option.map_eq_none_iff, List.find?_eq_none]
  refine ⟨fun h y z a b hlt ha hb => ?_, fun h x hx => ?_⟩
  · have hz := h (z.val + 1, b) (mem_fittedZones.mpr ⟨z, hb, rfl⟩)
    simp only [List.any_eq_true, not_exists, not_and, Bool.not_eq_true] at hz
    have hy := hz (y.val + 1, a) (mem_fittedZones.mpr ⟨y, ha, rfl⟩)
    have hlt' : y.val + 1 < z.val + 1 := Nat.succ_lt_succ hlt
    simp only [hlt', decide_true, Bool.true_and, zonesShare, Bool.and_eq_false_iff, decide_eq_false_iff_not, not_lt] at hy
    exact hy.symm
  · simp only [List.any_eq_true, not_exists, not_and, Bool.not_eq_true, Bool.and_eq_false_iff, decide_eq_false_iff_not]
    intro y hy
    obtain ⟨z, hb, hz⟩ := mem_fittedZones.mp hx
    obtain ⟨w, ha, hw⟩ := mem_fittedZones.mp hy
    by_cases hlt : w < z
    · right
      have hapart := h w z y.2 x.2 hlt ha hb
      simp only [zonesShare, Bool.and_eq_false_iff, decide_eq_false_iff_not, not_lt]
      exact hapart.symm
    · left
      rw [hz, hw]
      exact fun hless => hlt (Nat.lt_of_succ_lt_succ hless)

theorem zoneViolation_none {g : Geometry} {t : Tunnel} : zoneViolation g t = none ↔
    zoneOutside g (fittedZones t) = none ∧ zoneOverlapping (fittedZones t) = none
      ∧ firstBreak (sortByStart ((fittedZones t).filter fun z => decide (z.2.role = .set))) = none := by
  unfold zoneViolation
  dsimp only
  cases zoneOutside g (fittedZones t) <;> cases zoneOverlapping (fittedZones t) <;> simp
  cases firstBreak (sortByStart ((fittedZones t).filter fun z => decide (z.2.role = .set))) <;> simp

/-! ### The line as a whole (R121) -/

theorem positionUnconverted_none {c : Converter} : positionUnconverted c = none ↔
    c.entries[(0 : Fin 16)].enabled = true ∧ c.entries[(1 : Fin 16)].enabled = true := by
  unfold positionUnconverted
  cases c.entries[(0 : Fin 16)].enabled <;> cases c.entries[(1 : Fin 16)].enabled <;> simp

/-- The checks of LEAVE_CONFIG pass one after the other (R121). -/
theorem leaveViolation_none {s : State} : leaveViolation s = none ↔ portViolation s = none ∧
    ∃ g, s.track.geometry = some g ∧ lineSourceViolation s = none ∧ zoneViolation g s.tunnel = none
      ∧ positionUnconverted s.converter = none := by
  unfold leaveViolation
  cases portViolation s with
  | some v => simp
  | none =>
    cases s.track.geometry with
    | none => simp
    | some g =>
      cases lineSourceViolation s with
      | some v => simp
      | none => cases hzones : zoneViolation g s.tunnel <;> simp [hzones]

/-- Settles O12: LEAVE_CONFIG passes exactly where each of its checks passes. -/
theorem leaveConfigPassesExactlySoundConfigurations : Obligations.LeaveConfigPassesExactlySoundConfigurations := by
  intro s
  rw [leaveViolation_none, portViolation_none, lineSourceViolation_none, positionUnconverted_none]
  simp only [zoneViolation_none, zoneOutside_none, zoneOverlapping_none]
  constructor
  · rintro ⟨⟨n, hport⟩, g, hg, hlines, ⟨hinside, hapart, hbreak⟩, hpositions⟩
    exact ⟨n, g, hport.length, hg, hport.windows, hport.status, hport.fields, hport.apart, hport.samples, hlines, hinside,
      hapart, hbreak, hpositions⟩
  · rintro ⟨n, g, hlength, hg, hwindows, hstatus, hfields, happ, hsamples, hlines, hinside, hapart, hbreak, hpositions⟩
    exact ⟨⟨n, hlength, hwindows, hstatus, hfields, happ, hsamples⟩, g, hg, hlines, ⟨hinside, hapart, hbreak⟩, hpositions⟩

end Sys2Proof.Proofs

/-! The sample converter: Gray decoding, conversion and filters (O29). -/

namespace Sys2Proof.Proofs

open Machine Statements

/-! ### Gray decoding (R23) -/

theorem grayDigits_lt (gray n : Nat) (above : Bool) : grayDigits gray n above < 2 ^ n := by
  induction n generalizing above with
  | zero => exact Nat.one_pos
  | succ n ih =>
    have hrest := ih (xor above (gray.testBit n))
    rw [grayDigits, Nat.pow_succ]
    split <;> omega

/-- The highest digit is the Gray digit combined with the one above it. -/
theorem grayDigits_testBit_top (gray n : Nat) (above : Bool) :
    (grayDigits gray (n + 1) above).testBit n = xor above (gray.testBit n) := by
  have hlt := grayDigits_lt gray n (xor above (gray.testBit n))
  rw [grayDigits]
  cases hdigit : xor above (gray.testBit n)
  · rw [hdigit] at hlt
    simpa using Nat.testBit_lt_two_pow hlt
  · rw [hdigit] at hlt
    rw [if_pos rfl, Nat.testBit_two_pow_add_eq, Nat.testBit_lt_two_pow hlt]
    rfl

/-- The lower digits are those under the highest one. -/
theorem grayDigits_testBit_below {gray n k : Nat} {above : Bool} (h : k < n) :
    (grayDigits gray (n + 1) above).testBit k = (grayDigits gray n (xor above (gray.testBit n))).testBit k := by
  rw [grayDigits]
  split
  · exact Nat.testBit_two_pow_add_gt h _
  · rw [Nat.zero_add]

theorem grayDigits_testBit {gray n k : Nat} (above : Bool) (h : k < n) : (grayDigits gray n above).testBit k =
    xor (if k + 1 = n then above else (grayDigits gray n above).testBit (k + 1)) (gray.testBit k) := by
  induction n generalizing above with
  | zero => exact absurd h (Nat.not_lt_zero k)
  | succ n ih =>
    obtain hlt | rfl := Nat.lt_succ_iff_lt_or_eq.mp h
    · rw [grayDigits_testBit_below hlt, ih _ hlt, if_neg (show ¬k + 1 = n + 1 by omega)]
      obtain rfl | hlast := Nat.eq_or_lt_of_le (Nat.succ_le_of_lt hlt)
      · rw [if_pos rfl, grayDigits_testBit_top]
      · rw [if_neg (Nat.ne_of_lt hlast), grayDigits_testBit_below hlast]
    · rw [if_pos rfl, grayDigits_testBit_top]

theorem grayDecode_testBit (w gray k : Nat) (h : k < w) : (grayDecode w gray).testBit k =
    if k + 1 = w then gray.testBit k else xor ((grayDecode w gray).testBit (k + 1)) (gray.testBit k) := by
  rw [grayDecode, grayDigits_testBit false h]
  split
  · exact Bool.false_xor _
  · rfl

/-- The digits of the reflected code of `x`, under those of `x`. -/
theorem grayDigits_reflected (x n : Nat) : grayDigits (x ^^^ (x / 2)) n (x.testBit n) = x % 2 ^ n := by
  induction n with
  | zero => simp [grayDigits, Nat.mod_one]
  | succ n ih =>
    have hdigit : xor (x.testBit (n + 1)) ((x ^^^ (x / 2)).testBit n) = x.testBit n := by
      rw [Nat.testBit_xor, Nat.testBit_div_two]
      cases x.testBit (n + 1) <;> cases x.testBit n <;> rfl
    rw [grayDigits]
    rw [hdigit, ih, Nat.mod_pow_succ, Nat.add_comm, Nat.testBit_eq_decide_div_mod_eq]
    obtain hbit | hbit := Nat.mod_two_eq_zero_or_one (x / 2 ^ n) <;> simp [hbit]

theorem grayDecode_reflected (w n : Nat) (h : n < 2 ^ w) : grayDecode w (n ^^^ (n / 2)) = n := by
  have hdigits := grayDigits_reflected n w
  rwa [Nat.testBit_lt_two_pow h, Nat.mod_eq_of_lt h] at hdigits

/-! ### Rounding and scaling (R24, R26) -/

theorem roundNearest_nearest (a : Int) {d : Nat} (hd : 1 ≤ d) : Nearest a d (roundNearest a d) := by
  unfold roundNearest
  dsimp only
  generalize hq : (2 * a.natAbs + d) / (2 * d) = q
  have hlow : q * (2 * d) ≤ 2 * a.natAbs + d := hq ▸ Nat.div_mul_le_self _ _
  have hhigh : 2 * a.natAbs + d < q * (2 * d) + 2 * d := by
    have := Nat.lt_mul_div_succ (2 * a.natAbs + d) (show 0 < 2 * d by omega)
    rw [hq] at this
    linarith
  have hproduct : q * (2 * d) = 2 * (q * d) := by ring
  rw [hproduct] at hlow hhigh
  unfold Nearest
  split
  · rw [Int.neg_mul, Int.natAbs_neg, ← Int.natCast_mul, Int.natAbs_natCast]
    generalize q * d = m at *
    omega
  · rw [← Int.natCast_mul, Int.natAbs_natCast]
    generalize q * d = m at *
    omega

theorem countRead_eq (e : ConversionEntry) (c : Nat) : countRead e c = signedCount e c := by
  unfold countRead signedCount signedRead
  cases e.signed
  · rfl
  · by_cases h : 2 ^ (e.width - 1) ≤ c <;> simp [h]

/-- What a count is scaled to (R24, R26). -/
theorem scaled_nearest {e : ConversionEntry} (c : Nat) (he : 1 ≤ e.denominator) :
    ∃ n : Int, Nearest (countRead e c * e.numerator) e.denominator n ∧ scaled e c = n + e.offset :=
  ⟨roundNearest (countRead e c * e.numerator) e.denominator, roundNearest_nearest _ he, by rw [scaled, countRead_eq]⟩

/-! ### Absolute and code quantities (R24, R28) -/

theorem rangeTop_eq {i : Fin 16} (h : 2 ≤ i.val) : rangeTop i = topOf i := by
  have hall : ∀ i : Fin 16, 2 ≤ i.val → rangeTop i = topOf i := by decide
  exact hall i h

theorem topOf_le (i : Fin 16) : topOf i ≤ 1000000 := by
  have hall : ∀ i : Fin 16, topOf i ≤ 1000000 := by decide
  exact hall i

theorem faultNotice_eq (i : Fin 16) : faultNotice i =
    if 14 ≤ i.val then some (if i = 14 then .knifeFault else .cutterFault) else none := by
  have hall : ∀ i : Fin 16, faultNotice i =
      if 14 ≤ i.val then some (if i = 14 then Notice.knifeFault else .cutterFault) else none := by decide
  exact hall i

/-- The filter of the maximum change (R24). -/
theorem convertAbsolute_eq {top : Nat} {e : ConversionEntry} {q : Quantity} {c : Nat} {target : Int} {held : Bool}
    (htarget : target = max 0 (min (top : Int) (scaled e c)))
    (hheld : held = decide (q.lastRaw ≠ none ∧ e.maxChange ≠ 0 ∧ e.maxChange < (target - q.value.toNat).natAbs)) :
    (((convertAbsolute top e q c).1 : Int) = if held = false then target
      else if (q.value.toNat : Int) < target then q.value.toNat + e.maxChange else q.value.toNat - e.maxChange)
    ∧ (convertAbsolute top e q c).2 = held := by
  have hclamped : ((clampInt 0 top (scaled e c)).toNat : Int) = target := by
    rw [clampInt_eq _ _ _ (Int.natCast_nonneg top), ← htarget]
    omega
  have hsome : q.lastRaw.isSome = true ↔ q.lastRaw ≠ none := Option.isSome_iff_ne_none
  unfold convertAbsolute
  dsimp only
  simp only [hsome]
  generalize (clampInt 0 top (scaled e c)).toNat = m at *
  subst hclamped
  by_cases hfilter : q.lastRaw ≠ none ∧ e.maxChange ≠ 0
  · simp only [hfilter, true_and, ne_eq, not_false_eq_true] at hheld ⊢
    split
    · next hup =>
      have hyes : held = true := by rw [hheld, decide_eq_true_eq]; omega
      simp only [hyes]
      refine ⟨?_, trivial⟩
      rw [if_neg (by simp), if_pos (by omega)]
      omega
    · split
      · next hdown =>
        have hyes : held = true := by rw [hheld, decide_eq_true_eq]; omega
        simp only [hyes]
        refine ⟨?_, trivial⟩
        rw [if_neg (by simp), if_neg (by omega)]
        omega
      · have hno : held = false := by rw [hheld, decide_eq_false_iff_not]; omega
        simp [hno]
  · have hno : held = false := by
      rw [hheld, decide_eq_false_iff_not]
      exact fun h => hfilter ⟨h.1, h.2.1⟩
    rw [if_neg (fun h => hfilter ⟨h.1, h.2.1⟩), if_neg (fun h => hfilter ⟨h.1, h.2.1⟩), hno]
    exact ⟨rfl, rfl⟩

/-- A filtered value stays below the top of the range or what the quantity had. -/
theorem absolute_fits {i : Fin 16} {e : ConversionEntry} {q : Quantity} {target n : Int} {v : Nat} {held : Bool}
    (htarget : target = max 0 (min (topOf i : Int) n))
    (hheld : held = decide (q.lastRaw ≠ none ∧ e.maxChange ≠ 0 ∧ e.maxChange < (target - q.value.toNat).natAbs))
    (hv : (v : Int) = (if held = false then target
      else if (q.value.toNat : Int) < target then q.value.toNat + e.maxChange else q.value.toNat - e.maxChange)) :
    v < 2 ^ 32 := by
  have htop := topOf_le i
  have hvalue := q.value.isLt
  cases held with
  | false =>
    rw [if_pos rfl] at hv
    omega
  | true =>
    obtain ⟨-, -, hfar⟩ := of_decide_eq_true hheld.symm
    rw [if_neg (by simp)] at hv
    split at hv <;> omega

theorem ofNat_eq_two {v : Nat} (h : v < 2 ^ 32) : BitVec.ofNat 32 v = 2#32 ↔ v = 2 := by
  rw [← BitVec.toNat_inj, BitVec.toNat_ofNat, Nat.mod_eq_of_lt h]
  rfl

theorem absoluteSamples : AbsoluteSamples := by
  intro i e q c hi he
  obtain ⟨n, hn, hscaled⟩ := scaled_nearest c he
  obtain ⟨hv, hheld⟩ := convertAbsolute_eq (top := rangeTop i) (e := e) (q := q) (c := c) rfl rfl
  rw [rangeTop_eq hi, hscaled] at hv hheld
  refine ⟨n, _, (convertAbsolute (topOf i) e q c).1, _, hn, rfl, rfl, hv, ?_⟩
  have hfits := absolute_fits rfl rfl hv
  have hincremental : isIncremental i = false := decide_eq_false (by omega)
  rw [takeSample, hincremental, if_neg (by simp), rangeTop_eq hi, hheld, faultNotice_eq]
  by_cases hstate : 14 ≤ i.val
  · simp [hstate, ofNat_eq_two hfits]
  · simp [hstate]

/-! ### Incremental quantities (R26) -/

theorem takeSample_incremental {i : Fin 16} (h : i.val < 2) (e : ConversionEntry) (q : Quantity) (c : Nat) :
    takeSample i e q c =
      ({ value := (convertIncremental e q c).1, lost := false, fresh := true, age := 0,
         remainder := (convertIncremental e q c).2.1, lastRaw := some c },
        if (convertIncremental e q c).2.2 then [.sampleFiltered] else []) := by
  have hfault : faultNotice i = none := by rw [faultNotice_eq, if_neg (by omega)]
  have hincremental : isIncremental i = true := by simp [isIncremental, h]
  rw [takeSample, hincremental, hfault, if_pos rfl]
  simp

theorem startSamples : StartSamples := by
  intro i e q c hi he hstart
  obtain ⟨n, hn, hscaled⟩ := scaled_nearest c he
  refine ⟨n, hn, ?_⟩
  rw [takeSample_incremental hi, convertIncremental, hstart, hscaled]
  rfl

/-- A count of `w` digits read as two's complement differs from it by a multiple of 2^w and lies in the signed range. -/
theorem signedRead_range {w c : Nat} (hw : 1 ≤ w) (hc : c < 2 ^ w) : (2 ^ w : Int) ∣ signedRead w c - c
    ∧ -(2 ^ (w - 1) : Int) ≤ signedRead w c ∧ signedRead w c < 2 ^ (w - 1) := by
  obtain ⟨k, rfl⟩ := Nat.exists_eq_add_of_le' hw
  rw [Nat.add_sub_cancel, signedRead, Nat.add_sub_cancel]
  have hpow : (2 : Int) ^ (k + 1) = 2 * 2 ^ k := by ring
  have hcast : ((2 ^ k : Nat) : Int) = 2 ^ k := by push_cast; rfl
  rw [Nat.pow_succ] at hc
  split
  · refine ⟨⟨-1, by ring⟩, ?_, ?_⟩ <;> omega
  · refine ⟨⟨0, by ring⟩, ?_, ?_⟩ <;> omega

theorem rawDelta_range {e : ConversionEntry} (last c : Nat) (hw : 1 ≤ e.width) :
    (2 ^ e.width : Int) ∣ rawDelta e last c - ((c : Int) - last) ∧ -(2 ^ (e.width - 1) : Int) ≤ rawDelta e last c
      ∧ rawDelta e last c < 2 ^ (e.width - 1) := by
  have hpos : (0 : Int) < 2 ^ e.width := by positivity
  have hnonneg : 0 ≤ ((c : Int) - last) % 2 ^ e.width := Int.emod_nonneg _ hpos.ne'
  have hlt : (((c : Int) - last) % 2 ^ e.width).toNat < 2 ^ e.width := by
    have hless := Int.emod_lt_of_pos ((c : Int) - last) hpos
    zify
    rwa [Int.toNat_of_nonneg hnonneg]
  obtain ⟨hdvd, hrange⟩ := signedRead_range hw hlt
  rw [Int.toNat_of_nonneg hnonneg] at hdvd
  refine ⟨?_, hrange⟩
  have hmod : (2 ^ e.width : Int) ∣ ((c : Int) - last) % 2 ^ e.width - ((c : Int) - last) :=
    (Int.mod_modEq _ _).symm.dvd
  have hsum := hdvd.add hmod
  rwa [sub_add_sub_cancel] at hsum

/-- The filter of the maximum change on a delta (R26). -/
theorem filteredDelta_eq (e : ConversionEntry) (d : Int) :
    (filteredDelta e d).1 = (if e.maxChange ≠ 0 ∧ (e.maxChange : Int) < d then (e.maxChange : Int)
      else if e.maxChange ≠ 0 ∧ d < -(e.maxChange : Int) then -(e.maxChange : Int) else d)
    ∧ ((filteredDelta e d).2 = true ↔ (filteredDelta e d).1 ≠ d) := by
  unfold filteredDelta
  split
  · split
    · rw [if_neg (by omega), if_pos (by omega)]
      exact ⟨rfl, by simp; omega⟩
    · rw [if_pos (by omega)]
      exact ⟨rfl, by simp; omega⟩
  · rw [if_neg (by omega), if_neg (by omega)]
    simp

/-- Settles O29: each digit, each rounding and each filter of the converter is the stated one. -/
theorem samplesDecodeAndAddUp : Obligations.SamplesDecodeAndAddUp := by
  refine ⟨absoluteSamples, startSamples, grayDecode_reflected, grayDecode_testBit, fun i e q c last hi hlast hw hd => ?_⟩
  obtain ⟨hcongruent, hlow, hhigh⟩ := rawDelta_range (e := e) last c hw
  obtain ⟨htaken, hfiltered⟩ := filteredDelta_eq e (rawDelta e last c)
  have hpos : (0 : Int) < e.denominator := by exact_mod_cast hd
  have hremainder := Int.emod_nonneg ((filteredDelta e (rawDelta e last c)).1 * e.numerator + q.remainder) hpos.ne'
  have hbelow := Int.emod_lt_of_pos ((filteredDelta e (rawDelta e last c)).1 * e.numerator + q.remainder) hpos
  have hdivision := Int.mul_ediv_add_emod ((filteredDelta e (rawDelta e last c)).1 * e.numerator + q.remainder) e.denominator
  rw [takeSample_incremental hi, convertIncremental, hlast]
  dsimp only
  generalize hacc : (filteredDelta e (rawDelta e last c)).1 * e.numerator + (q.remainder : Int) = acc at *
  have hrest : acc - acc / e.denominator * e.denominator = acc % e.denominator := by
    linarith
  refine ⟨rawDelta e last c, (filteredDelta e (rawDelta e last c)).1, acc / e.denominator, (acc % e.denominator).toNat,
    hcongruent, hlow, hhigh, htaken, ?_, ?_, ?_⟩
  · rw [Int.toNat_of_nonneg hremainder]
    linarith
  · omega
  · rw [hrest]
    by_cases hsame : (filteredDelta e (rawDelta e last c)).1 = rawDelta e last c
    · have hno : (filteredDelta e (rawDelta e last c)).2 = false := by
        rw [Bool.eq_false_iff]
        exact fun h => hfiltered.mp h hsame
      rw [hno, if_pos hsame]
      rfl
    · rw [hfiltered.mpr hsame, if_neg hsame]
      rfl

end Sys2Proof.Proofs

/-! The entries of a panel and the graded depths (O31). -/

namespace Sys2Proof.Proofs

open Machine Statements

/-! ### The entries of a panel as a list (R56) -/

/-- The entries a group makes, its folds numbered from `base` on. -/
def groupEntries (g : FoldGroup) (base : Nat) : List EntrySpec :=
  (if g.flatLead = 0 then [] else [.flat g.flatLead]) ++ (List.range g.count).map fun k => .fold g k (base + k)

/-- The entries from the first group on, the lead-out last. -/
def entriesAfterLeadIn (leadOut : Nat) : List FoldGroup → Nat → List EntrySpec
  | [], _ => [.flat leadOut]
  | g :: rest, base => groupEntries g base ++ entriesAfterLeadIn leadOut rest (base + g.count)

/-- All entries of a panel. -/
def panelEntries (p : Pattern) : List EntrySpec := .flat p.leadIn :: entriesAfterLeadIn p.leadOut p.groups 0

theorem groupEntries_length (g : FoldGroup) (base : Nat) : (groupEntries g base).length = flatLeadEntries g + g.count := by
  unfold groupEntries flatLeadEntries
  split <;> simp [Nat.add_comm]

/-- The flat lead of a group, then its folds. -/
theorem groupEntries_getElem? {g : FoldGroup} {n : Nat} (base : Nat) (h : n < flatLeadEntries g + g.count) :
    (groupEntries g base)[n]? = if n < flatLeadEntries g then some (.flat g.flatLead)
      else some (.fold g (n - flatLeadEntries g) (base + (n - flatLeadEntries g))) := by
  unfold flatLeadEntries at *
  unfold groupEntries
  by_cases hflat : g.flatLead = 0
  · rw [if_pos hflat] at h ⊢
    rw [if_pos hflat, if_neg (Nat.not_lt_zero n), List.nil_append, List.getElem?_map, List.getElem?_range (by omega)]
    rfl
  · rw [if_neg hflat] at h ⊢
    rw [if_neg hflat]
    cases n with
    | zero => rfl
    | succ n =>
      rw [if_neg (by omega), List.cons_append, List.getElem?_cons_succ, List.nil_append, List.getElem?_map,
        List.getElem?_range (by omega), Nat.add_sub_cancel]
      rfl

/-- The model's entry `n` is the list's. -/
theorem entryAfterLeadIn_eq (leadOut : Nat) (groups : List FoldGroup) (n base : Nat) :
    entryAfterLeadIn leadOut groups n base = (entriesAfterLeadIn leadOut groups base)[n]? := by
  induction groups generalizing n base with
  | nil => cases n <;> rfl
  | cons g rest ih =>
    rw [entryAfterLeadIn, entriesAfterLeadIn]
    by_cases hown : n < flatLeadEntries g + g.count
    · rw [List.getElem?_append_left (by rwa [groupEntries_length]), groupEntries_getElem? base hown]
      by_cases hflat : n < flatLeadEntries g
      · rw [if_pos hflat, if_pos hflat]
      · rw [if_neg hflat, if_neg hflat, if_pos (by omega)]
    · rw [List.getElem?_append_right (by rw [groupEntries_length]; omega), groupEntries_length, if_neg (by omega),
        if_neg (by omega), ih, Nat.sub_sub]

theorem entrySpec_eq (p : Pattern) (n : Nat) : entrySpec p n = (panelEntries p)[n]? := by
  cases n with
  | zero => rfl
  | succ n => exact entryAfterLeadIn_eq p.leadOut p.groups n 0

theorem entriesAfterLeadIn_length (leadOut : Nat) (groups : List FoldGroup) (base : Nat) :
    (entriesAfterLeadIn leadOut groups base).length = (groups.map fun g => flatLeadEntries g + g.count).sum + 1 := by
  induction groups generalizing base with
  | nil => rfl
  | cons g rest ih =>
    rw [entriesAfterLeadIn, List.length_append, groupEntries_length, ih, List.map_cons, List.sum_cons, ← Nat.add_assoc]

theorem panelEntries_length (p : Pattern) : (panelEntries p).length = entryCount p := by
  rw [panelEntries, List.length_cons, entriesAfterLeadIn_length, entryCount]
  omega

/-- A list read position by position is the list. -/
theorem filterMap_getElem?_range {α : Type} (l : List α) : (List.range l.length).filterMap (fun n => l[n]?) = l := by
  induction l with
  | nil => rfl
  | cons a l ih =>
    rw [List.length_cons, List.range_succ_eq_map, List.filterMap_cons_some (List.getElem?_cons_zero), List.filterMap_map]
    exact congrArg (a :: ·) ih

theorem entries_eq (p : Pattern) : (List.range (entryCount p)).filterMap (entrySpec p) = panelEntries p := by
  have hspec : entrySpec p = fun n => (panelEntries p)[n]? := funext (entrySpec_eq p)
  rw [hspec, ← panelEntries_length, filterMap_getElem?_range]

/-! ### Their lengths (R46, R59, R60) -/

theorem foldLengthSum_eq (g : FoldGroup) (kind : FoldKind) (n : Nat) :
    ((List.range n).map fun k => g.pitch + kind.multiplier * calcDepth g kind k).sum = foldLengthSum g kind n := by
  induction n with
  | zero => rfl
  | succ n ih =>
    rw [List.range_succ, List.map_append, List.sum_append, ih, List.map_singleton, List.sum_singleton]
    rfl

theorem groupEntries_input (kinds : Vector FoldKind 16) (g : FoldGroup) (base : Nat) :
    ((groupEntries g base).map (entryInput kinds)).sum = g.flatLead + foldLengthSum g (kindAt kinds g.kind) g.count := by
  have hfolds : (((List.range g.count).map fun k => EntrySpec.fold g k (base + k)).map (entryInput kinds)).sum =
      foldLengthSum g (kindAt kinds g.kind) g.count := by
    rw [List.map_map, ← foldLengthSum_eq]
    rfl
  rw [groupEntries, List.map_append, List.sum_append, hfolds]
  split
  · next hflat => simp [hflat]
  · simp [entryInput]

theorem groupEntries_output (g : FoldGroup) (base : Nat) :
    ((groupEntries g base).map entryOutput).sum = g.flatLead + g.count * g.pitch := by
  have hfolds : (((List.range g.count).map fun k => EntrySpec.fold g k (base + k)).map entryOutput).sum =
      g.count * g.pitch := by
    rw [List.map_map]
    have hconst : entryOutput ∘ (fun k => EntrySpec.fold g k (base + k)) = fun _ => g.pitch := rfl
    rw [hconst, List.map_const', List.sum_replicate, List.length_range, smul_eq_mul]
  rw [groupEntries, List.map_append, List.sum_append, hfolds]
  split
  · next hflat => simp [hflat]
  · simp [entryOutput]

theorem entriesAfterLeadIn_input (kinds : Vector FoldKind 16) (leadOut : Nat) (groups : List FoldGroup) (base : Nat) :
    ((entriesAfterLeadIn leadOut groups base).map (entryInput kinds)).sum =
      (groups.map fun g => g.flatLead + foldLengthSum g (kindAt kinds g.kind) g.count).sum + leadOut := by
  induction groups generalizing base with
  | nil => simp [entriesAfterLeadIn, entryInput]
  | cons g rest ih =>
    rw [entriesAfterLeadIn, List.map_append, List.sum_append, groupEntries_input, ih, List.map_cons, List.sum_cons]
    omega

theorem entriesAfterLeadIn_output (leadOut : Nat) (groups : List FoldGroup) (base : Nat) :
    ((entriesAfterLeadIn leadOut groups base).map entryOutput).sum =
      (groups.map fun g => g.flatLead + g.count * g.pitch).sum + leadOut := by
  induction groups generalizing base with
  | nil => simp [entriesAfterLeadIn, entryOutput]
  | cons g rest ih =>
    rw [entriesAfterLeadIn, List.map_append, List.sum_append, groupEntries_output, ih, List.map_cons, List.sum_cons]
    omega

/-! ### Graded depths (R58) -/

/-- A calculation depth is a graded depth of 0 or more, up to the limit. -/
theorem calcDepth_eq {g : FoldGroup} {kind : FoldKind} {k : Nat} (h : 0 ≤ gradedDepth g k) :
    (calcDepth g kind k : Int) = min (gradedDepth g k) kind.limit := by
  rw [calcDepth, clampInt_eq _ _ _ (Int.natCast_nonneg _)]
  omega

theorem calcDepth_le (g : FoldGroup) (kind : FoldKind) (k : Nat) : calcDepth g kind k ≤ kind.limit := by
  rw [calcDepth, clampInt_eq _ _ _ (Int.natCast_nonneg _)]
  omega

theorem gradedDepth_eq {g : FoldGroup} (h : 2 ≤ g.count) (k : Nat) : gradedDepth g k =
    (g.startDepth : Int) + roundNearest (((g.endDepth : Int) - g.startDepth) * k) (g.count - 1) :=
  if_neg (by omega)

theorem roundNearest_zero (d : Nat) : roundNearest 0 d = 0 := by
  have hzero : (2 * (0 : Int).natAbs + d) / (2 * d) = 0 := by
    obtain rfl | hd := Nat.eq_zero_or_pos d
    · rfl
    · exact Nat.div_eq_of_lt (by rw [Int.natAbs_zero]; omega)
  rw [roundNearest]
  rw [hzero]
  rfl

/-- A rounded multiple is the factor. -/
theorem roundNearest_mul (x : Int) {d : Nat} (hd : 1 ≤ d) : roundNearest (x * d) d = x := by
  obtain ⟨hclose, -⟩ := roundNearest_nearest (x * d) hd
  rw [← sub_mul, Int.natAbs_mul, Int.natAbs_natCast] at hclose
  by_contra hne
  have hfar : 1 ≤ (x - roundNearest (x * d) d).natAbs := Int.natAbs_pos.mpr (sub_ne_zero.mpr (Ne.symm hne))
  have := Nat.mul_le_mul_right d hfar
  omega

/-- The rounded part of a difference does not pass the difference below. -/
theorem roundNearest_part {x : Int} {k d : Nat} (hd : 1 ≤ d) (hk : k ≤ d) : min 0 x ≤ roundNearest (x * k) d := by
  rw [roundNearest]
  split
  · next hneg =>
    have hpart : (x * k).natAbs ≤ x.natAbs * d := by
      rw [Int.natAbs_mul, Int.natAbs_natCast]
      exact Nat.mul_le_mul_left _ hk
    have hless : 2 * (x * k).natAbs + d < (x.natAbs + 1) * (2 * d) := by
      have hproduct : (x.natAbs + 1) * (2 * d) = 2 * (x.natAbs * d) + 2 * d := by ring
      omega
    have hquotient := Nat.div_lt_of_lt_mul (Nat.mul_comm _ (2 * d) ▸ hless)
    have hx : x < 0 := by
      by_contra hx
      exact absurd (Int.mul_nonneg (not_lt.mp hx) (Int.natCast_nonneg k)) (not_le.mpr hneg)
    omega
  · exact (min_le_left 0 x).trans (Int.natCast_nonneg _)

theorem gradedDepth_nonneg {g : FoldGroup} {k : Nat} (h : 2 ≤ g.count) (hk : k < g.count) : 0 ≤ gradedDepth g k := by
  have hpart := roundNearest_part (x := (g.endDepth : Int) - g.startDepth) (k := k) (d := g.count - 1) (by omega) (by omega)
  rw [gradedDepth_eq h]
  omega

theorem gradedDepth_first (g : FoldGroup) : gradedDepth g 0 = g.startDepth := by
  rw [gradedDepth]
  split
  · rfl
  · rw [Int.natCast_zero, Int.mul_zero, roundNearest_zero, Int.add_zero]

theorem gradedDepth_last {g : FoldGroup} (h : 2 ≤ g.count) : gradedDepth g (g.count - 1) = g.endDepth := by
  rw [gradedDepth_eq h, roundNearest_mul _ (by omega)]
  omega

/-- Settles O31: the entries are a list, whose lengths add up group by group; the depths follow from the rounding. -/
theorem entriesAddUpToTheTotals : Obligations.EntriesAddUpToTheTotals := by
  refine ⟨fun kinds x htotals es hes => ?_, fun g kind => ⟨calcDepth_le g kind, ?_, fun h => ?_, fun k hk h => ?_⟩⟩
  · rw [hes, entries_eq, panelEntries_length, htotals]
    refine ⟨rfl, fun n hn => ?_, ?_, ?_, rfl⟩
    · rw [entrySpec_eq]
      exact List.getElem?_eq_none (by rwa [panelEntries_length])
    · rw [panelEntries, List.map_cons, List.sum_cons, entriesAfterLeadIn_input, ← Nat.add_assoc]
      rfl
    · rw [panelEntries, List.map_cons, List.sum_cons, entriesAfterLeadIn_output, ← Nat.add_assoc]
      rfl
  · have hfirst := calcDepth_eq (g := g) (kind := kind) (k := 0) (by rw [gradedDepth_first]; omega)
    rw [gradedDepth_first] at hfirst
    exact_mod_cast hfirst
  · have hlast := calcDepth_eq (g := g) (kind := kind) (k := g.count - 1) (by rw [gradedDepth_last h]; omega)
    rw [gradedDepth_last h] at hlast
    exact_mod_cast hlast
  · refine ⟨_, roundNearest_nearest _ (by omega), ?_⟩
    rw [calcDepth_eq (gradedDepth_nonneg h hk), gradedDepth_eq h]

end Sys2Proof.Proofs
